-- ==== Sys2Proof/Word.lean ====
section
/-! DEFINITION. The word types of the block's ports and registers (00_scope.md R6, R9, R12). -/

namespace Sys2Proof

/-- A byte: a bus byte, a channel operand, a pointer, a bus error token (`W_CH`, `W_PTR`, `W_ERR`). -/
abbrev Byte := BitVec 8

/-- The configuration word, the raw sample, the gain, rate and information operands. -/
abbrev Word16 := BitVec 16

/-- The device address (`W_ADDR`). -/
abbrev DevAddr := BitVec 7

/-- The active gain: 13 bits hold the largest gain, 6144 (10_state.md R29). -/
abbrev Gain := BitVec 13

/-- A command word (30_encoding.md R65). -/
abbrev CmdWord := BitVec 64

end Sys2Proof
end

