-- ==== Sys2Proof/Config.lean ====
section
/-! DEFINITION. The configuration record of the implementation (00_scope.md R6 to R10, 92_eei_decisions.md D2, D5,
D10, D22) and the one free value. The adopted instance is `Sys2Proof.Machine.adopted` in Machine/Tables.lean. -/

namespace Sys2Proof

/-- The parameters an implementation fixes: tables (00_scope.md R7), masks (30_encoding.md R72), pointers, tick rate
(R8) and default operands (R10). They are OPEN (92_eei_decisions.md D2, D5, D10, D22): every meaning takes them from
the machine's own record, `Machine.State.config`. A table is a list of key and field contribution; a key not listed is outside its
domain. -/
structure Config where
  /-- `GAIN_FIELD` (40_encoding_tables.md R91). -/
  gainField : List (Word16 × Word16)
  /-- `RATE_FIELD[HIRES]` (R92). -/
  rateFieldHires : List (Word16 × Word16)
  /-- The listed part of `RATE_FIELD[STD]` (R93). -/
  rateFieldStd : List (Word16 × Word16)
  /-- `STD_RATE_8TH`, the open eighth entry of `RATE_FIELD[STD]` (R93). -/
  stdRate8th : Option (Word16 × Word16)
  /-- `SE_FIELD` (R95). -/
  seField : List (Byte × Word16)
  /-- `DIFF_FIELD` (R96), keyed by the ordered pair (P, N). -/
  diffField : List ((Byte × Byte) × Word16)
  /-- `DEFAULT_WORD` (R97). -/
  defaultWord : Word16
  /-- `START_FLAG` (R98). -/
  startFlag : Word16
  /-- `M_START`, `M_CH`, `M_GAIN`, `M_RATE`, `M_DEFAULT` (30_encoding.md R72). -/
  maskStart : Word16
  maskCh : Word16
  maskGain : Word16
  maskRate : Word16
  maskDefault : Word16
  /-- `PTR_CONFIG` and `PTR_CONVERSION` (R99). -/
  ptrConfig : Byte
  ptrConversion : Byte
  /-- `TICK_HZ` (00_scope.md R8). -/
  tickHz : Nat
  /-- The default operands (00_scope.md R10). -/
  defaultChannel : Byte
  defaultPair : Byte × Byte
  defaultGain : Word16
  defaultRateHires : Word16
  defaultRateStd : Word16
  deriving DecidableEq, Repr

/-- FREE VALUE (log entry 15, DESIGN CHOICE, safe): what `ceil(TICK_HZ / r)` is at `r = 0`. 42_bus_sequencer.md R124
defines `WAIT_TICKS(r)` for `r >= 1` only. No value of it can be proved. -/
opaque Config.samplePeriodAtZero (tickHz : Nat) : Nat

end Sys2Proof
end

