-- ==== Sys2Proof/Syntax.lean ====
section
/-! DEFINITION. The rows of spec/opcode_table.json as one inductive, and the types of their operands and answers. -/

namespace Sys2Proof

/-- The chip variant (10_state.md R27): `STD = 0`, `HIRES = 1`. -/
inductive Variant where
  | std
  | hires
  deriving DecidableEq, Repr

/-- The five values of `phase`, the block's program counter (10_state.md R21, 30_encoding.md R77). -/
inductive Phase where
  | idle
  | writeCfg
  | wait
  | readConv
  | respond
  deriving DecidableEq, Repr

/-- The seven error kinds, a closed set (60_exceptions.md R175). -/
inductive ErrorKind where
  | invalidVariant
  | invalidSampleRate
  | invalidGain
  | invalidChannel
  | invalidChannelPair
  | busWriteError
  | busReadError
  deriving DecidableEq, Repr

/-- What `BUS` answers a `write` transaction (20_memory.md R47): a draw. -/
inductive WriteOutcome where
  | ok
  | fail (e : Byte)
  deriving DecidableEq, Repr

/-- What `BUS` answers a `writeThenRead` transaction (20_memory.md R47): a draw. -/
inductive ReadOutcome where
  | ok (b0 b1 : Byte)
  | fail (e : Byte)
  deriving DecidableEq, Repr

/-- The channel operand of the encoder after defaulting: a single-ended channel or an ordered pair (P, N)
(41_config_builder.md R110). -/
inductive Selector where
  | se (c : Byte)
  | diff (p n : Byte)
  deriving DecidableEq, Repr

/-- A read command. An operand is `none` where its presence bit is 0: its field is then ignored
(30_encoding.md R68, R69, R75). -/
inductive ReadCmd where
  | se (ch : Option Byte) (gain rate : Option Word16)
  | diff (pair : Option (Byte × Byte)) (gain rate : Option Word16)
  deriving DecidableEq, Repr

/-- The operands a read command actually uses (44_orchestration.md R157). -/
structure Request where
  sel : Selector
  gain : Word16
  rate : Word16
  deriving DecidableEq, Repr

/-- A command `HOST` offers (30_encoding.md R66). -/
inductive Command where
  | nop
  | construct (variantSel : Byte) (addr : DevAddr)
  | read (c : ReadCmd)
  deriving DecidableEq, Repr

/-- The answer of the encoder's functions: a word, or an error with its information word
(41_config_builder.md R105 to R110). -/
inductive Built where
  | word (w : Word16)
  | raised (e : ErrorKind) (info : Word16)
  deriving DecidableEq, Repr

/-- One event of the environment and the scheduler (00_scope.md R5, R15): which agent moves next, with what it draws. -/
inductive Event where
  /-- `HOST` offers a command word (`cmd_valid = 1`). -/
  | offer (cmdWord : CmdWord)
  /-- `BUS` answers the outstanding `write` transaction. -/
  | busWrite (o : WriteOutcome)
  /-- `BUS` answers the outstanding `writeThenRead` transaction. -/
  | busRead (o : ReadOutcome)
  /-- The time base ticks. -/
  | tick
  /-- `SEQ` is given its turn: the `WAIT` exit, if enabled. -/
  | seq
  /-- `HOST` is ready to take a response (`rsp_ready = 1`). -/
  | take
  /-- `RESET`. -/
  | reset
  deriving DecidableEq, Repr

/-- The rows of spec/opcode_table.json, one constructor each, in the table's order. -/
inductive Instr where
  /-- `NOP` (44_orchestration.md R160). -/
  | nop
  /-- `CONSTRUCT variant_sel, addr` (44_orchestration.md R156). -/
  | construct (variantSel : Byte) (addr : DevAddr)
  /-- `READ_SE [ch=c] [gain=g] [rate=r]` (44_orchestration.md R158). -/
  | readSe (ch : Option Byte) (gain rate : Option Word16)
  /-- `READ_DIFF [pair=p,n] [gain=g] [rate=r]` (44_orchestration.md R159). -/
  | readDiff (pair : Option (Byte × Byte)) (gain rate : Option Word16)
  /-- `ACCEPT`: the joint step of `HOST` and `SEQ` on an offered command word (44_orchestration.md R155). -/
  | accept (cmdWord : CmdWord)
  /-- `WRITE_CFG` with the outcome `BUS` draws (42_bus_sequencer.md R121). -/
  | writeCfg (o : WriteOutcome)
  /-- `WAIT.TICK` (42_bus_sequencer.md R125). -/
  | waitTick
  /-- `WAIT.EXIT` (42_bus_sequencer.md R126). -/
  | waitExit
  /-- `READ_CONV` with the outcome `BUS` draws (42_bus_sequencer.md R127). -/
  | readConv (o : ReadOutcome)
  /-- `RESPOND` (44_orchestration.md R161). -/
  | respond
  /-- Frame `W3`: `MemWrite(PTR_CONFIG, 2, word)` and its outcome (20_memory.md R50, 30_encoding.md R73). -/
  | w3 (word : Word16) (o : WriteOutcome)
  /-- Frame `R1+2`: `MemRead(PTR_CONVERSION, 2)` and its outcome (20_memory.md R51, 30_encoding.md R73). -/
  | r1plus2 (o : ReadOutcome)
  /-- `CFG_WORD`: the configuration word with these channel, gain and rate codes (41_config_builder.md R110,
  30_encoding.md R71, R79). -/
  | cfgWord (ch gain rate : BitVec 3)
  /-- `LOOKUP_RATE(w, r)` (41_config_builder.md R105). -/
  | lookupRate (w r : Word16)
  /-- `LOOKUP_GAIN(w, g)` (41_config_builder.md R106). -/
  | lookupGain (w g : Word16)
  /-- `RESOLVE_SE(c)` (41_config_builder.md R107). -/
  | resolveSe (c : Byte)
  /-- `RESOLVE_DIFF(p, n)` (41_config_builder.md R108). -/
  | resolveDiff (p n : Byte)
  /-- `BUILD(mode, sel, g, r)`; the mode is the selector's (41_config_builder.md R110). -/
  | build (sel : Selector) (g r : Word16)
  /-- `DEFAULTED(c)` (44_orchestration.md R157). -/
  | defaulted (c : ReadCmd)
  /-- `WAIT_TICKS(r)` (42_bus_sequencer.md R124). -/
  | waitTicks (r : Word16)
  /-- `RAW16(b0, b1)` (43_sample_converter.md R141). -/
  | raw16 (b0 b1 : Byte)
  /-- `SHIFT12(raw)` (43_sample_converter.md R142). -/
  | shift12 (raw : Int)
  /-- `CONVERT(v, g, w)` (43_sample_converter.md R143). -/
  | convert (v : Variant) (g : Gain) (w : Word16)
  /-- `RESET` (70_reset_and_hazards.md R200). -/
  | reset
  deriving DecidableEq, Repr

end Sys2Proof
end

