-- ==== Sys2Proof/Machine/Tables.lean ====
section
/-! DEFINITION. The adopted instance of the encoding tables and parameters (40_encoding_tables.md R90 to R99,
00_scope.md R8, R10) and the constraints every instance meets (R100, 30_encoding.md R72). -/

namespace Sys2Proof.Machine

/-- `GAIN_FIELD` (40_encoding_tables.md R91; codes PRESUMED, log entry 10). -/
def gainField : List (Word16 × Word16) :=
  [(6144, 0x0000), (4096, 0x0200), (2048, 0x0400), (1024, 0x0600), (512, 0x0800), (256, 0x0A00)]

/-- `RATE_FIELD[HIRES]` (40_encoding_tables.md R92; rates and codes PRESUMED, log entry 10). -/
def rateFieldHires : List (Word16 × Word16) :=
  [(8, 0x0000), (16, 0x0020), (32, 0x0040), (64, 0x0060), (128, 0x0080), (250, 0x00A0), (475, 0x00C0), (860, 0x00E0)]

/-- `RATE_FIELD[STD]` (40_encoding_tables.md R93; rates and codes PRESUMED, log entry 10). -/
def rateFieldStd : List (Word16 × Word16) :=
  [(128, 0x0000), (250, 0x0020), (490, 0x0040), (920, 0x0060), (1600, 0x0080), (2400, 0x00A0), (3300, 0x00C0)]

/-- `SE_FIELD` (40_encoding_tables.md R95; codes PRESUMED, log entry 10). -/
def seField : List (Byte × Word16) :=
  [(0, 0x4000), (1, 0x5000), (2, 0x6000), (3, 0x7000)]

/-- `DIFF_FIELD` (40_encoding_tables.md R96; codes PRESUMED, log entry 10). -/
def diffField : List ((Byte × Byte) × Word16) :=
  [((0, 1), 0x0000), ((0, 3), 0x1000), ((1, 3), 0x2000), ((2, 3), 0x3000)]

/-- The adopted instance of the configuration record. `STD_RATE_8TH` is absent (log entry 12); the pointers (R99),
the default word and start flag (R97, R98) are PRESUMED (log entry 10); the tick rate and the default operands are
the spec's decisions D10 and D5 (log entries 11, 13). -/
def adopted : Config where
  gainField := gainField
  rateFieldHires := rateFieldHires
  rateFieldStd := rateFieldStd
  stdRate8th := none
  seField := seField
  diffField := diffField
  defaultWord := 0x0103
  startFlag := 0x8000
  maskStart := 0x8000
  maskCh := 0x7000
  maskGain := 0x0E00
  maskRate := 0x00E0
  maskDefault := 0x011F
  ptrConfig := 0x01
  ptrConversion := 0x00
  tickHz := 1000000
  defaultChannel := 0
  defaultPair := (0, 1)
  defaultGain := 6144
  defaultRateHires := 128
  defaultRateStd := 1600

/-- `RATE_FIELD[v]` (40_encoding_tables.md R90: selected by the variant; R93: the open eighth entry joins `STD`). -/
def rateField (cfg : Config) (v : Variant) : List (Word16 × Word16) :=
  match v with
  | .hires => cfg.rateFieldHires
  | .std => cfg.rateFieldStd ++ cfg.stdRate8th.toList

/-- `RATES[v]`: the legal rates of a variant (00_scope.md R7). -/
def ratesIn (cfg : Config) (v : Variant) : List Word16 := (rateField cfg v).map Prod.fst

/-- `DEFAULT_RATE[v]` (40_encoding_tables.md R94). -/
def defaultRate (cfg : Config) (v : Variant) : Word16 :=
  match v with
  | .hires => cfg.defaultRateHires
  | .std => cfg.defaultRateStd

/-- A table is injective and its keys are distinct (40_encoding_tables.md R100 (b)). -/
def injectiveTable {α : Type} [DecidableEq α] (t : List (α × Word16)) : Bool :=
  decide ((t.map Prod.fst).Nodup) && decide ((t.map Prod.snd).Nodup)

/-- Every value of a table lies within a mask (40_encoding_tables.md R100 (d)). -/
def withinMask {α : Type} (t : List (α × Word16)) (m : Word16) : Bool :=
  t.all fun p => p.2 &&& m == p.2

/-- The constraints on any instance of the tables: 40_encoding_tables.md R100 (a) to (f), 30_encoding.md R72, and
R99's two distinct pointers. -/
def tablesValid (cfg : Config) : Bool :=
  -- (a) the domains the document fixes
  decide (cfg.gainField.map Prod.fst = [6144, 4096, 2048, 1024, 512, 256]) &&
  decide (cfg.seField.map Prod.fst = [0, 1, 2, 3]) &&
  decide (cfg.diffField.map Prod.fst = [(0, 1), (0, 3), (1, 3), (2, 3)]) &&
  -- (b) each table injective
  injectiveTable cfg.gainField && injectiveTable cfg.seField && injectiveTable cfg.diffField &&
  injectiveTable (rateField cfg .hires) && injectiveTable (rateField cfg .std) &&
  -- (c) no single-ended field is a differential field
  (cfg.seField.all fun p => cfg.diffField.all fun q => p.2 != q.2) &&
  -- (d) the contributions lie in pairwise disjoint masks
  withinMask cfg.gainField cfg.maskGain && withinMask cfg.seField cfg.maskCh && withinMask cfg.diffField cfg.maskCh &&
  withinMask (rateField cfg .hires) cfg.maskRate && withinMask (rateField cfg .std) cfg.maskRate &&
  (cfg.defaultWord &&& cfg.maskDefault == cfg.defaultWord) && (cfg.startFlag &&& cfg.maskStart == cfg.startFlag) &&
  decide ([cfg.maskStart, cfg.maskCh, cfg.maskGain, cfg.maskRate, cfg.maskDefault].Pairwise fun m n => m &&& n = 0) &&
  -- (e) rates are positive
  ((rateField cfg .hires).all fun p => p.1 != 0) && ((rateField cfg .std).all fun p => p.1 != 0) &&
  -- (f) the defaults lie in their domains
  (cfg.gainField.lookup cfg.defaultGain).isSome && (cfg.seField.lookup cfg.defaultChannel).isSome &&
  (cfg.diffField.lookup cfg.defaultPair).isSome &&
  ((rateField cfg .hires).lookup (defaultRate cfg .hires)).isSome &&
  ((rateField cfg .std).lookup (defaultRate cfg .std)).isSome &&
  -- 00_scope.md R8, 40_encoding_tables.md R99
  decide (0 < cfg.tickHz) && (cfg.ptrConfig != cfg.ptrConversion)

end Sys2Proof.Machine
end

