-- ==== Sys2Proof/WellFormed.lean ====
section
/-! DEFINITION. Which instructions are well formed: operands inside the domain the spec gives the row. Every command is
(30_encoding.md R78); an operand out of a table is a validation error, not an ill-formed command. -/

namespace Sys2Proof

/-- The domain of each row's operands. -/
def Instr.wf (i : Instr) : Bool :=
  match i with
  -- 30_encoding.md R79: the gain field is never 0b110 or 0b111
  | .cfgWord _ gain _ => decide (gain ≤ 5)
  -- 42_bus_sequencer.md R124: defined for r >= 1
  | .waitTicks r => decide (r ≠ 0)
  -- 43_sample_converter.md R141, R142: the readings of RAW16
  | .shift12 raw => decide (-32768 ≤ raw ∧ raw ≤ 32767)
  -- 43_sample_converter.md R143: g is a member of GAINS
  | .convert _ g _ => [6144, 4096, 2048, 1024, 512, 256].contains g
  | .nop => true
  | .construct _ _ => true
  | .readSe _ _ _ => true
  | .readDiff _ _ _ => true
  | .accept _ => true
  | .writeCfg _ => true
  | .waitTick => true
  | .waitExit => true
  | .readConv _ => true
  | .respond => true
  | .w3 _ _ => true
  | .r1plus2 _ => true
  | .lookupRate _ _ => true
  | .lookupGain _ _ => true
  | .resolveSe _ => true
  | .resolveDiff _ _ => true
  | .build _ _ _ => true
  | .defaulted _ => true
  | .raw16 _ _ => true
  | .reset => true

end Sys2Proof
end

