-- ==== Sys2Proof/Decode.lean ====
section
/-! DEFINITION. The encoded objects of 30_encoding.md and their decoder, then the encoder. The formats are those of
30_encoding.md section 10: CMD64, PHASE3, FRAME24, FRAME8, CFG16. Rows of format FUNC and EVENT have no bits and a
decoder ignores them. -/

namespace Sys2Proof

/-- An encoded object: its format, its bits, and the draw that comes with a bus frame or a phase-selected step. -/
inductive Encoded where
  | cmd64 (w : CmdWord)
  | phase3 (code : BitVec 3) (e : Event)
  | frame24 (w : BitVec 24) (o : WriteOutcome)
  | frame8 (w : BitVec 8) (o : ReadOutcome)
  | cfg16 (w : Word16)
  deriving DecidableEq, Repr

/-- Why an encoded object is no instruction. -/
inductive DecodeError where
  /-- `phase` codes 5, 6 and 7 (30_encoding.md R77). -/
  | unusedPhaseCode
  /-- The phase has no step for this event (42_bus_sequencer.md R133, R125). -/
  | notEnabled
  /-- The first byte of a three-byte frame is not `PTR_CONFIG` (20_memory.md R50). -/
  | notConfigPointer
  /-- The byte of a one-byte frame is not `PTR_CONVERSION` (20_memory.md R51). -/
  | notConversionPointer
  /-- A fixed bit of the configuration word is wrong (30_encoding.md R79). -/
  | fixedBits
  /-- Gain codes 0b110 and 0b111 are never produced (30_encoding.md R79). -/
  | gainCodeNeverProduced
  deriving DecidableEq, Repr

/-- An operand is there only when its presence bit is 1 (30_encoding.md R75). -/
def presentIf {α : Type} (present : Bool) (x : α) : Option α :=
  if present then some x else none

/-- The fields of a command word (30_encoding.md R65). -/
def cmdOp (w : CmdWord) : BitVec 2 := w.extractLsb' 62 2
def cmdHasSel (w : CmdWord) : Bool := w.getLsbD 61
def cmdHasGain (w : CmdWord) : Bool := w.getLsbD 60
def cmdHasRate (w : CmdWord) : Bool := w.getLsbD 59
def cmdA (w : CmdWord) : Byte := w.extractLsb' 40 8
def cmdB (w : CmdWord) : Byte := w.extractLsb' 32 8
def cmdAddr (w : CmdWord) : DevAddr := w.extractLsb' 32 7
def cmdGain (w : CmdWord) : Word16 := w.extractLsb' 16 16
def cmdRate (w : CmdWord) : Word16 := w.extractLsb' 0 16

/-- Format CMD64: every 64-bit word is one of the four commands (30_encoding.md R66 to R69, R78). -/
def decodeCommand (w : CmdWord) : Command :=
  if cmdOp w = 0b00#2 then .nop
  else if cmdOp w = 0b01#2 then .construct (cmdA w) (cmdAddr w)
  else if cmdOp w = 0b10#2 then
    .read (.se (presentIf (cmdHasSel w) (cmdA w)) (presentIf (cmdHasGain w) (cmdGain w))
      (presentIf (cmdHasRate w) (cmdRate w)))
  else
    .read (.diff (presentIf (cmdHasSel w) (cmdA w, cmdB w)) (presentIf (cmdHasGain w) (cmdGain w))
      (presentIf (cmdHasRate w) (cmdRate w)))

/-- The table row of a command (30_encoding.md R66). -/
def commandInstr (c : Command) : Instr :=
  match c with
  | .nop => .nop
  | .construct v a => .construct v a
  | .read (.se ch g r) => .readSe ch g r
  | .read (.diff p g r) => .readDiff p g r

/-- The 3-bit code of a phase (30_encoding.md R77). -/
def phaseCode (p : Phase) : BitVec 3 :=
  match p with
  | .idle => 0
  | .writeCfg => 1
  | .wait => 2
  | .readConv => 3
  | .respond => 4

/-- Format PHASE3: the step the phase code enables for an event (30_encoding.md R77; the rows of
42_bus_sequencer.md R133). -/
def decodePhase (code : BitVec 3) (e : Event) : Except DecodeError Instr :=
  if code = 0 then
    match e with
    | .offer w => .ok (.accept w)
    | _ => .error .notEnabled
  else if code = 1 then
    match e with
    | .busWrite o => .ok (.writeCfg o)
    | _ => .error .notEnabled
  else if code = 2 then
    match e with
    | .tick => .ok .waitTick
    | .seq => .ok .waitExit
    | _ => .error .notEnabled
  else if code = 3 then
    match e with
    | .busRead o => .ok (.readConv o)
    | _ => .error .notEnabled
  else if code = 4 then
    match e with
    | .take => .ok .respond
    | _ => .error .notEnabled
  else .error .unusedPhaseCode

/-- Frame `W3`: byte0 = `PTR_CONFIG`, then the word big-endian (30_encoding.md R73, 20_memory.md R54). -/
def decodeFrame24 (cfg : Config) (w : BitVec 24) (o : WriteOutcome) : Except DecodeError Instr :=
  if w.extractLsb' 16 8 = cfg.ptrConfig then .ok (.w3 (w.extractLsb' 0 16) o)
  else .error .notConfigPointer

/-- Frame `R1+2`: the byte sent is `PTR_CONVERSION` (30_encoding.md R73). -/
def decodeFrame8 (cfg : Config) (w : BitVec 8) (o : ReadOutcome) : Except DecodeError Instr :=
  if w = cfg.ptrConversion then .ok (.r1plus2 o) else .error .notConversionPointer

/-- Format CFG16: `1cccggg1rrr00011` (30_encoding.md R71, R79). -/
def decodeCfg16 (w : Word16) : Except DecodeError Instr :=
  if w &&& 0x811F#16 = 0x8103#16 then
    if w.extractLsb' 9 3 ≤ 5#3 then
      .ok (.cfgWord (w.extractLsb' 12 3) (w.extractLsb' 9 3) (w.extractLsb' 5 3))
    else .error .gainCodeNeverProduced
  else .error .fixedBits

/-- The decoder, total on every encoded object; the pointers of the frames are the configuration's. -/
def decode (cfg : Config) (x : Encoded) : Except DecodeError Instr :=
  match x with
  | .cmd64 w => .ok (commandInstr (decodeCommand w))
  | .phase3 code e => decodePhase code e
  | .frame24 w o => decodeFrame24 cfg w o
  | .frame8 w o => decodeFrame8 cfg w o
  | .cfg16 w => decodeCfg16 w

/-- An instruction from the bits the opcode table numbers. Operand bits the table does not list are 0, so a bus outcome
is `fail` with token 0 (`bus_rsp_ok = 0`, 20_memory.md R48) and an offered word is the all-zero word. Eight bits that
are 0 are the frame `R1+2`, whose format has eight bits; the values 1 to 4 are phase codes, and code 2 is read as the
`TICK` row (log entry 16). -/
def decodeTableWord (nbits w : Nat) : Option Instr :=
  match nbits with
  | 64 => (decode Machine.adopted (.cmd64 (BitVec.ofNat 64 w))).toOption
  | 24 => (decode Machine.adopted (.frame24 (BitVec.ofNat 24 w) (.fail 0))).toOption
  | 16 => (decode Machine.adopted (.cfg16 (BitVec.ofNat 16 w))).toOption
  | 8 => if w = 0 then (decode Machine.adopted (.frame8 0 (.fail 0))).toOption else tablePhase w
  | 3 => tablePhase w
  | _ => none
where
  /-- A PHASE3 row with its event, the operands zero. -/
  tablePhase (code : Nat) : Option Instr :=
    match code with
    | 0 => (decode Machine.adopted (.phase3 0 (.offer 0))).toOption
    | 1 => (decode Machine.adopted (.phase3 1 (.busWrite (.fail 0)))).toOption
    | 2 => (decode Machine.adopted (.phase3 2 .tick)).toOption
    | 3 => (decode Machine.adopted (.phase3 3 (.busRead (.fail 0)))).toOption
    | 4 => (decode Machine.adopted (.phase3 4 .take)).toOption
    | _ => none

/-- A field at a bit position of a wider word, the other bits 0 (00_scope.md R12). -/
def placeAt {n m : Nat} (x : BitVec n) (lo : Nat) : BitVec m := x.setWidth m <<< lo

/-- A command word from its fields; the reserved bits are 0 (30_encoding.md R65). -/
def packCommand (op : BitVec 2) (hasSel hasGain hasRate : Bool) (a b : Byte) (gain rate : Word16) : CmdWord :=
  placeAt op 62 ||| placeAt (BitVec.ofBool hasSel) 61 ||| placeAt (BitVec.ofBool hasGain) 60 |||
    placeAt (BitVec.ofBool hasRate) 59 ||| placeAt a 40 ||| placeAt b 32 ||| placeAt gain 16 ||| placeAt rate 0

/-- The command word of a command, every ignored field 0 (30_encoding.md R66 to R69, R81). -/
def encodeCommand (c : Command) : CmdWord :=
  match c with
  | .nop => packCommand 0b00 false false false 0 0 0 0
  | .construct v a => packCommand 0b01 false false false v (a.setWidth 8) 0 0
  | .read (.se ch g r) =>
    packCommand 0b10 ch.isSome g.isSome r.isSome (ch.getD 0) 0 (g.getD 0) (r.getD 0)
  | .read (.diff p g r) =>
    packCommand 0b11 p.isSome g.isSome r.isSome (p.getD (0, 0)).1 (p.getD (0, 0)).2 (g.getD 0) (r.getD 0)

/-- The configuration word with these field codes (30_encoding.md R71): start flag, channel, gain, single-shot mode,
rate, and the comparator bits of the default word. -/
def composeCfgWord (ch gain rate : BitVec 3) : Word16 :=
  placeAt 0b1#1 15 ||| placeAt ch 12 ||| placeAt gain 9 ||| placeAt 0b1#1 8 ||| placeAt rate 5 ||| placeAt 0b00011#5 0

/-- The encoder; the pointers of the frames are the configuration's. FUNC and EVENT rows have no encoding (30_encoding.md section 10). -/
def encode (cfg : Config) (i : Instr) : Option Encoded :=
  match i with
  | .nop => some (.cmd64 (encodeCommand .nop))
  | .construct v a => some (.cmd64 (encodeCommand (.construct v a)))
  | .readSe ch g r => some (.cmd64 (encodeCommand (.read (.se ch g r))))
  | .readDiff p g r => some (.cmd64 (encodeCommand (.read (.diff p g r))))
  | .accept w => some (.phase3 (phaseCode .idle) (.offer w))
  | .writeCfg o => some (.phase3 (phaseCode .writeCfg) (.busWrite o))
  | .waitTick => some (.phase3 (phaseCode .wait) .tick)
  | .waitExit => some (.phase3 (phaseCode .wait) .seq)
  | .readConv o => some (.phase3 (phaseCode .readConv) (.busRead o))
  | .respond => some (.phase3 (phaseCode .respond) .take)
  | .w3 word o => some (.frame24 (placeAt cfg.ptrConfig 16 ||| placeAt word 0) o)
  | .r1plus2 o => some (.frame8 cfg.ptrConversion o)
  | .cfgWord ch gain rate => some (.cfg16 (composeCfgWord ch gain rate))
  | .lookupRate _ _ => none
  | .lookupGain _ _ => none
  | .resolveSe _ => none
  | .resolveDiff _ _ => none
  | .build _ _ _ => none
  | .defaulted _ => none
  | .waitTicks _ => none
  | .raw16 _ _ => none
  | .shift12 _ => none
  | .convert _ _ _ => none
  | .reset => none

end Sys2Proof
end

