-- ==== Sys2Proof/Machine/Delay.lean ====
section
/-! DEFINITION. The settle delay in ticks (42_bus_sequencer.md R124, 00_scope.md R8, 43_sample_converter.md R149 (d)). -/

namespace Sys2Proof.Machine

/-- The exact integer ceiling of `a / b`, `b` positive (43_sample_converter.md R149 (d)). -/
def ceilQuotient (a b : Nat) : Nat := (a + b - 1) / b

/-- `EPS_TICKS = ceil(TICK_HZ / 10000)` (00_scope.md R8). -/
def epsTicks (cfg : Config) : Nat := ceilQuotient cfg.tickHz 10000

/-- `ceil(TICK_HZ / r)`; at `r = 0`, where R124 gives none, the free value of log entry 15. -/
def samplePeriod (cfg : Config) (r : Word16) : Nat :=
  if r = 0 then Config.samplePeriodAtZero cfg.tickHz else ceilQuotient cfg.tickHz r.toNat

/-- `WAIT_TICKS(r)` (42_bus_sequencer.md R124). -/
def waitTicks (cfg : Config) (r : Word16) : Nat := samplePeriod cfg r + epsTicks cfg + 1

/-- The longest delay of any legal rate of any variant. -/
def longestWait (cfg : Config) : Nat :=
  (ratesIn cfg .hires ++ ratesIn cfg .std).foldr (fun r m => max (waitTicks cfg r) m) 0

/-- `W_TIMER`: the least width that holds `WAIT_TICKS(r)` for the smallest rate of any variant (00_scope.md R8); 17 at
the defaults. -/
def timerWidth (cfg : Config) : Nat := Nat.log2 (longestWait cfg) + 1

end Sys2Proof.Machine
end

