-- ==== Sys2Proof/Machine/Sample.lean ====
section
/-! DEFINITION. The result sampler's functions (43_sample_converter.md R141 to R143). They are pure (R152). -/

namespace Sys2Proof.Machine

/-- `b0 ‖ b1 = (b0 << 8) | b1`: the first byte is the high one (30_encoding.md R76, 20_memory.md R54). -/
def joinBytes (b0 b1 : Byte) : Word16 := b0.setWidth 16 <<< 8 ||| b1.setWidth 16

/-- The more and the less significant byte of a word (20_memory.md R54). -/
def hiByte (w : Word16) : Byte := w.extractLsb' 8 8
def loByte (w : Word16) : Byte := w.extractLsb' 0 8

/-- `RAW16(b0, b1)`: the big-endian word read as a signed number (43_sample_converter.md R141). -/
def raw16 (b0 b1 : Byte) : Int := (joinBytes b0 b1).toInt

/-- `SHIFT12(raw) = floor(raw / 16)` (43_sample_converter.md R142). -/
def shift12 (raw : Int) : Int := Int.fdiv raw 16

/-- The exact integer `q` of `CONVERT`: the voltage is `q / 32768` millivolts (43_sample_converter.md R143, R146). -/
def convertExact (v : Variant) (g : Gain) (w : Word16) : Int :=
  match v with
  | .hires => raw16 (hiByte w) (loByte w) * (g.toNat : Int)
  | .std => shift12 (raw16 (hiByte w) (loByte w)) * (g.toNat : Int) * 16

/-- `CONVERT(v, g, w)` on the 32-bit response port (43_sample_converter.md R143). -/
def convert (v : Variant) (g : Gain) (w : Word16) : BitVec 32 := BitVec.ofInt 32 (convertExact v g w)

end Sys2Proof.Machine
end

