-- ==== Sys2Proof/Machine/State.lean ====
section
/-! DEFINITION. The machine's state as plain data, its faults and refusals, and the state after reset
(10_state.md, 70_reset_and_hazards.md R200, R201). -/

namespace Sys2Proof.Machine

/-- One event of the bus trace, an observation (10_state.md R33 (e)). -/
inductive BusEvent where
  /-- A `write` transaction: device address, bytes sent, outcome (20_memory.md R50). -/
  | write (addr : DevAddr) (sent : List Byte) (o : WriteOutcome)
  /-- A `writeThenRead` transaction: device address, bytes sent, number of bytes read, outcome (20_memory.md R51). -/
  | read (addr : DevAddr) (sent : List Byte) (n : Nat) (o : ReadOutcome)
  /-- `T`: a tick taken in `phase = WAIT` (42_bus_sequencer.md R125). -/
  | tick
  deriving DecidableEq, Repr

/-- A response triple (30_encoding.md R70). -/
structure Response where
  status : BitVec 4
  info : Word16
  value : BitVec 32
  deriving DecidableEq, Repr

/-- The answer of a row that is a function, an encoded object or a bus primitive (log entry 6). -/
inductive Answer where
  /-- `LOOKUP_RATE`, `LOOKUP_GAIN`, `RESOLVE_SE`, `RESOLVE_DIFF`, `BUILD`: a word or an error. -/
  | built (b : Built)
  /-- `CFG_WORD`: the composed configuration word. -/
  | word (w : Word16)
  /-- `DEFAULTED`: the operands used. -/
  | request (r : Request)
  /-- `WAIT_TICKS`: a number of ticks. -/
  | ticks (n : Nat)
  /-- `RAW16`, `SHIFT12`: a signed reading. -/
  | reading (q : Int)
  /-- `CONVERT`: the Q15 value. -/
  | value (q : BitVec 32)
  /-- `W3`: the outcome of the write transaction. -/
  | wrote (o : WriteOutcome)
  /-- `R1+2`: the outcome of the read transaction. -/
  | got (o : ReadOutcome)
  deriving DecidableEq, Repr

/-- The state elements that can hold no value (10_state.md R35). -/
inductive Element where
  | variant
  | devAddr
  | activeGain
  | reqRate
  | cfgWord
  | timer
  | response
  deriving DecidableEq, Repr

/-- Why the machine stops. -/
inductive Fault where
  /-- A rule reads a state element that holds no value (10_state.md R35, 60_exceptions.md R189 "Model fault").
  Raised by the shared operation `need` alone, for the meanings that read `variant`, `dev_addr`, `active_gain`,
  `req_rate`, `cfg_word`, `timer` or the response registers (93_implementation_defined.md U14: fault of the model).
  Safe: it stops where the spec gives no value, and no state reachable from reset raises it. -/
  | noValue (e : Element)
  deriving DecidableEq, Repr

/-- Why an instruction has no meaning. -/
inductive Refusal where
  /-- An instruction without a meaning yet; raised by no arm of `exec` (60_exceptions.md R189: refused, nothing).
  Safe. -/
  | notModelled (mnemonic : String)
  deriving DecidableEq, Repr

/-- The machine's configuration record, then the twelve elements of 10_state.md's table (R20), then what a run needs
beside them (log entries 1, 4, 5, 6): no rule of the block reads `trace`, `delivered` or `result`, and `inputs` is read
by the fetch of the next step alone.
`none` is R35's "holds no value". -/
structure State where
  /-- The configuration record, a parameter of the step relation that no step writes (10_state.md R33 (a),
  40_encoding_tables.md R90; log entry 27). -/
  config : Config
  /-- `phase` (R21). -/
  phase : Phase
  /-- `constructed` (R26). -/
  constructed : Bool
  /-- `variant` (R27). -/
  variant : Option Variant
  /-- `dev_addr` (R28). -/
  devAddr : Option DevAddr
  /-- `active_gain` (R29). -/
  activeGain : Option Gain
  /-- `req_rate` (R23). -/
  reqRate : Option Word16
  /-- `cfg_word` (R24). -/
  cfgWord : Option Word16
  /-- `timer` (R30), an unsigned number of `timerWidth config` bits (00_scope.md R8). -/
  timer : Option Nat
  /-- `raw_sample` (R25). -/
  rawSample : Option Word16
  /-- `rsp_status`, `rsp_info`, `rsp_value` (R31). -/
  rspStatus : Option (BitVec 4)
  rspInfo : Option Word16
  rspValue : Option (BitVec 32)
  /-- The bus trace, oldest event first (R33 (e), log entry 4). -/
  trace : List BusEvent
  /-- The coming events of the environment and the scheduler, next first (log entry 1). -/
  inputs : List Event
  /-- The responses `HOST` has received, oldest first (log entry 5). -/
  delivered : List Response
  /-- The answer of the last function, composer or primitive run as a row of its own (log entry 6). -/
  result : Option Answer
  deriving DecidableEq, Repr

/-- The state right after reset of the machine with this configuration (70_reset_and_hazards.md R201). The last four
fields are the model's own. -/
def State.resetOf (cfg : Config) : State where
  config := cfg
  phase := .idle
  constructed := false
  variant := none
  devAddr := none
  activeGain := none
  reqRate := none
  cfgWord := none
  timer := none
  rawSample := none
  rspStatus := none
  rspInfo := none
  rspValue := none
  trace := []
  inputs := []
  delivered := []
  result := none

/-- The state right after reset of the machine with the adopted configuration. -/
def State.reset : State := State.resetOf adopted

end Sys2Proof.Machine
end

