-- ==== Sys2Proof/Machine/Flags.lean ====
section
/-! DEFINITION. The derived signals. The block has no condition codes and no flags (10_state.md R32); these hold no
state of their own. -/

namespace Sys2Proof.Machine

/-- `busy` (10_state.md R32). -/
def busy (s : State) : Bool := decide (s.phase ≠ .idle)

/-- `rsp_valid` (10_state.md R32). -/
def rspValid (s : State) : Bool := decide (s.phase = .respond)

/-- `bus_req_valid` (10_state.md R32). -/
def busReqValid (s : State) : Bool := decide (s.phase = .writeCfg) || decide (s.phase = .readConv)

/-- `cmd_ready(c)` (44_orchestration.md R155). -/
def cmdReady (c : Command) (s : State) : Bool :=
  decide (s.phase = .idle) &&
    match c with
    | .nop => false
    | .construct _ _ => !s.constructed
    | .read _ => s.constructed

/-- What `HOST` may see of the response registers: the triple while `rsp_valid = 1`, else nothing
(10_state.md R31). -/
def visibleResponse (s : State) : Option Response :=
  if rspValid s then
    match s.rspStatus, s.rspInfo, s.rspValue with
    | some st, some i, some v => some ⟨st, i, v⟩
    | _, _, _ => none
  else none

/-- The request side of the bus port (20_memory.md R48), an illustration. -/
structure BusRequest where
  kind : Bool
  addr : DevAddr
  len : BitVec 2
  bytes : BitVec 24
  nread : BitVec 2
  deriving DecidableEq, Repr

/-- The request the block drives, if any (20_memory.md R48). -/
def busRequest (s : State) : Option BusRequest :=
  match s.phase with
  | .writeCfg =>
    match s.devAddr, s.cfgWord with
    | some a, some w => some ⟨false, a, 3, (s.config.ptrConfig.setWidth 24 <<< 16) ||| w.setWidth 24, 0⟩
    | _, _ => none
  | .readConv => s.devAddr.map fun a => ⟨true, a, 1, s.config.ptrConversion.setWidth 24 <<< 16, 2⟩
  | .idle => none
  | .wait => none
  | .respond => none

end Sys2Proof.Machine
end

