-- ==== Sys2Proof/Machine/Operands.lean ====
section
/-! DEFINITION. Operand assembly and the config register encoder's functions (30_encoding.md R74, R75,
44_orchestration.md R157, 41_config_builder.md R105 to R110). They are pure (R114). -/

namespace Sys2Proof.Machine

/-- `LOOKUP_RATE(w, r)` for the variant `v` (41_config_builder.md R105). -/
def lookupRate (cfg : Config) (v : Variant) (w r : Word16) : Built :=
  match (rateField cfg v).lookup r with
  | some f => .word (w ||| f)
  | none => .raised .invalidSampleRate r

/-- `LOOKUP_GAIN(w, g)` (41_config_builder.md R106). -/
def lookupGain (cfg : Config) (w g : Word16) : Built :=
  match cfg.gainField.lookup g with
  | some f => .word (w ||| f)
  | none => .raised .invalidGain g

/-- `RESOLVE_SE(c)` (41_config_builder.md R107). -/
def resolveSe (cfg : Config) (c : Byte) : Built :=
  match cfg.seField.lookup c with
  | some f => .word f
  | none => .raised .invalidChannel (c.setWidth 16)

/-- `RESOLVE_DIFF(p, n)` (41_config_builder.md R108). -/
def resolveDiff (cfg : Config) (p n : Byte) : Built :=
  match cfg.diffField.lookup (p, n) with
  | some f => .word f
  | none => .raised .invalidChannelPair (joinBytes p n)

/-- The channel field of either mode (41_config_builder.md R110). -/
def resolve (cfg : Config) (sel : Selector) : Built :=
  match sel with
  | .se c => resolveSe cfg c
  | .diff p n => resolveDiff cfg p n

/-- `BUILD(mode, sel, g, r)`: rate, then gain, then channel or pair; the first failure is reported
(41_config_builder.md R109, R110). -/
def build (cfg : Config) (v : Variant) (sel : Selector) (g r : Word16) : Built :=
  match lookupRate cfg v cfg.defaultWord r with
  | .raised e x => .raised e x
  | .word w1 =>
    match lookupGain cfg w1 g with
    | .raised e x => .raised e x
    | .word w2 =>
      match resolve cfg sel with
      | .raised e x => .raised e x
      | .word f => .word (w2 ||| f ||| cfg.startFlag)

/-- The channel operand after defaulting (44_orchestration.md R157). -/
def selectorOf (cfg : Config) (c : ReadCmd) : Selector :=
  match c with
  | .se ch _ _ => .se (ch.getD cfg.defaultChannel)
  | .diff p _ _ => .diff (p.getD cfg.defaultPair).1 (p.getD cfg.defaultPair).2

/-- The gain operand after defaulting (44_orchestration.md R157). -/
def gainOf (cfg : Config) (c : ReadCmd) : Word16 :=
  match c with
  | .se _ g _ => g.getD cfg.defaultGain
  | .diff _ g _ => g.getD cfg.defaultGain

/-- The rate operand as the command gives it. -/
def rateGiven (c : ReadCmd) : Option Word16 :=
  match c with
  | .se _ _ r => r
  | .diff _ _ r => r

/-- `DEFAULTED(c)` for the variant `v` (44_orchestration.md R157). -/
def defaulted (cfg : Config) (v : Variant) (c : ReadCmd) : Request :=
  ⟨selectorOf cfg c, gainOf cfg c, (rateGiven c).getD (defaultRate cfg v)⟩

/-- `BUILD` on the operands a command uses (44_orchestration.md R158). -/
def buildRequest (cfg : Config) (v : Variant) (q : Request) : Built := build cfg v q.sel q.gain q.rate

end Sys2Proof.Machine
end

