-- ==== Sys2Proof/Machine/Ops.lean ====
section
/-! DEFINITION. The named operations on the state: the response, error entry and return, the bus primitives, the latches,
and command acceptance. -/

namespace Sys2Proof.Machine

/-- The outcome type of every meaning. -/
abbrev StepResult := Host.Outcome State Fault Refusal

/-- A rule reads the state element `e`: the value is used, and an element that holds none is a model fault that names
it (10_state.md R35, 60_exceptions.md R189, 93_implementation_defined.md U14). -/
def need {α : Type} (e : Element) (x : Option α) (use : α → StepResult) : StepResult :=
  match x with
  | some a => use a
  | none => .fault (.noValue e)

/-- The status code of an error kind (60_exceptions.md R176). -/
def errorCode (e : ErrorKind) : BitVec 4 :=
  match e with
  | .invalidVariant => 1
  | .invalidSampleRate => 2
  | .invalidGain => 3
  | .invalidChannel => 4
  | .invalidChannelPair => 5
  | .busWriteError => 6
  | .busReadError => 7

/-- `respond(status, info, value)` with `phase <- RESPOND`: the three registers are written together, in exactly the
step that enters `RESPOND` (10_state.md R31, 30_encoding.md R70). -/
def enterRespond (status : BitVec 4) (info : Word16) (value : BitVec 32) (s : State) : State :=
  { s with phase := .respond, rspStatus := some status, rspInfo := some info, rspValue := some value }

/-- ERROR ENTRY, `raise E(info)` (60_exceptions.md R179): the response is (code, info, 0), control goes to `RESPOND`,
nothing else is written. -/
def raiseError (e : ErrorKind) (info : Word16) (s : State) : State := enterRespond (errorCode e) info 0 s

/-- RETURN, for an error as for any response (60_exceptions.md R181, 44_orchestration.md R161): `HOST` receives the
triple and `phase <- IDLE`. -/
def returnToIdle (s : State) : StepResult :=
  need .response s.rspStatus fun st =>
    need .response s.rspInfo fun i =>
      need .response s.rspValue fun v =>
        .next { s with phase := .idle, delivered := s.delivered ++ [⟨st, i, v⟩] }

/-- An event is appended to the bus trace (10_state.md R33 (e)). -/
def observe (e : BusEvent) (s : State) : State := { s with trace := s.trace ++ [e] }

/-- `MemWrite(ptr, 2, v)` at device address `a`, answered `o` (20_memory.md R50, R49). -/
def memWrite (ptr : Byte) (a : DevAddr) (v : Word16) (o : WriteOutcome) (s : State) : State :=
  observe (.write a [ptr, hiByte v, loByte v] o) s

/-- `MemRead(ptr, 2)` at device address `a`, answered `o` (20_memory.md R51, R49). -/
def memRead (ptr : Byte) (a : DevAddr) (o : ReadOutcome) (s : State) : State :=
  observe (.read a [ptr] 2 o) s

/-- A function's answer is put where an observer can see it (log entry 6). -/
def answer (r : Answer) (s : State) : State := { s with result := some r }

/-- The writes of a successful `CONSTRUCT` before it responds (44_orchestration.md R156). -/
def bindDriver (v : Variant) (a : DevAddr) (s : State) : State :=
  { s with variant := some v, devAddr := some a, constructed := true }

/-- The writes of an accepting step whose validation succeeds (41_config_builder.md R112): the three latches and
`phase <- WRITE_CFG`, together. -/
def latchRequest (g r w : Word16) (s : State) : State :=
  { s with activeGain := some (g.setWidth 13), reqRate := some r, cfgWord := some w, phase := .writeCfg }

/-- The timer load of a write answered `ok` (42_bus_sequencer.md R121); the timer has `W_TIMER` bits (10_state.md R30,
log entry 19). -/
def startWait (r : Word16) (s : State) : State :=
  { s with timer := some (waitTicks s.config r % 2 ^ timerWidth s.config), phase := .wait }

/-- The accepting step of `CONSTRUCT` (44_orchestration.md R156). -/
def performConstruct (variantSel : Byte) (addr : DevAddr) (s : State) : State :=
  if variantSel = 0x00#8 then enterRespond 0 0 0 (bindDriver .std addr s)
  else if variantSel = 0x01#8 then enterRespond 0 0 0 (bindDriver .hires addr s)
  else raiseError .invalidVariant (variantSel.setWidth 16) s

/-- The accepting step of a read command for the variant `v` (44_orchestration.md R158, R159). -/
def performRead (v : Variant) (c : ReadCmd) (s : State) : State :=
  match buildRequest s.config v (defaulted s.config v c) with
  | .word w => latchRequest (defaulted s.config v c).gain (defaulted s.config v c).rate w s
  | .raised e info => raiseError e info s

/-- An accepted command is performed. -/
def performCommand (c : Command) (s : State) : StepResult :=
  match c with
  | .nop => .next s
  | .construct v a => .next (performConstruct v a s)
  | .read r => need .variant s.variant fun v => .next (performRead v r s)

/-- `HOST` offers a command: it is accepted iff `cmd_ready`, and otherwise nothing happens
(44_orchestration.md R155). -/
def offerCommand (c : Command) (s : State) : StepResult :=
  if cmdReady c s then performCommand c s else .next s

end Sys2Proof.Machine
end

