-- ==== Sys2Proof/Machine/Commands.lean ====
section
/-! DEFINITION. The commands (44_orchestration.md): NOP, CONSTRUCT, READ_SE, READ_DIFF, and ACCEPT, the step that takes
the offered one. -/

namespace Sys2Proof.Machine

/-- `NOP` is never accepted (44_orchestration.md R160). -/
def execNop (s : State) : StepResult := offerCommand .nop s

/-- `CONSTRUCT variant_sel, addr` (44_orchestration.md R156). -/
def execConstruct (variantSel : Byte) (addr : DevAddr) (s : State) : StepResult :=
  offerCommand (.construct variantSel addr) s

/-- `READ_SE [ch=c] [gain=g] [rate=r]` (44_orchestration.md R158). -/
def execReadSe (ch : Option Byte) (gain rate : Option Word16) (s : State) : StepResult :=
  offerCommand (.read (.se ch gain rate)) s

/-- `READ_DIFF [pair=p,n] [gain=g] [rate=r]` (44_orchestration.md R159). -/
def execReadDiff (pair : Option (Byte × Byte)) (gain rate : Option Word16) (s : State) : StepResult :=
  offerCommand (.read (.diff pair gain rate)) s

/-- `ACCEPT`: the step taken is selected by the offered command word (44_orchestration.md R155). -/
def execAccept (cmdWord : CmdWord) (s : State) : StepResult := offerCommand (decodeCommand cmdWord) s

end Sys2Proof.Machine
end

