-- ==== Sys2Proof/Machine/Frames.lean ====
section
/-! DEFINITION. The encoded objects of the bus side as rows of their own: the two frames, which are the bus primitives
(20_memory.md R50, R51, 30_encoding.md R73), and the configuration word (41_config_builder.md R110). -/

namespace Sys2Proof.Machine

/-- Frame `W3` is `MemWrite(PTR_CONFIG, 2, word)`: it appends its event and answers its outcome (20_memory.md R50). -/
def execW3 (word : Word16) (o : WriteOutcome) (s : State) : StepResult :=
  need .devAddr s.devAddr fun a => .next (answer (.wrote o) (memWrite s.config.ptrConfig a word o s))

/-- Frame `R1+2` is `MemRead(PTR_CONVERSION, 2)`: it appends its event and answers its outcome (20_memory.md R51). -/
def execR1plus2 (o : ReadOutcome) (s : State) : StepResult :=
  need .devAddr s.devAddr fun a => .next (answer (.got o) (memRead s.config.ptrConversion a o s))

/-- `CFG_WORD`: the word composed of its fields (30_encoding.md R71, 41_config_builder.md R110). -/
def execCfgWord (ch gain rate : BitVec 3) (s : State) : StepResult :=
  .next (answer (.word (composeCfgWord ch gain rate)) s)

end Sys2Proof.Machine
end

