-- ==== Sys2Proof/Machine/Functions.lean ====
section
/-! DEFINITION. The combinational functions as rows of their own (format FUNC, 30_encoding.md section 10). Each is pure:
it answers, and changes no element of the block (41_config_builder.md R114, 43_sample_converter.md R152; log entries 6
and 7). The steps use the same functions of Operands.lean, Delay.lean and Sample.lean. -/

namespace Sys2Proof.Machine

/-- `LOOKUP_RATE(w, r)`; reads `variant` (41_config_builder.md R105). -/
def execLookupRate (w r : Word16) (s : State) : StepResult :=
  need .variant s.variant fun v => .next (answer (.built (lookupRate s.config v w r)) s)

/-- `LOOKUP_GAIN(w, g)` (41_config_builder.md R106). -/
def execLookupGain (w g : Word16) (s : State) : StepResult :=
  .next (answer (.built (lookupGain s.config w g)) s)

/-- `RESOLVE_SE(c)` (41_config_builder.md R107). -/
def execResolveSe (c : Byte) (s : State) : StepResult :=
  .next (answer (.built (resolveSe s.config c)) s)

/-- `RESOLVE_DIFF(p, n)` (41_config_builder.md R108). -/
def execResolveDiff (p n : Byte) (s : State) : StepResult :=
  .next (answer (.built (resolveDiff s.config p n)) s)

/-- `BUILD(mode, sel, g, r)`; reads `variant` (41_config_builder.md R110). -/
def execBuild (sel : Selector) (g r : Word16) (s : State) : StepResult :=
  need .variant s.variant fun v => .next (answer (.built (build s.config v sel g r)) s)

/-- `DEFAULTED(c)`; reads `variant` where the command gives no rate (44_orchestration.md R157). -/
def execDefaulted (c : ReadCmd) (s : State) : StepResult :=
  match rateGiven c with
  | some r => .next (answer (.request ⟨selectorOf s.config c, gainOf s.config c, r⟩) s)
  | none => need .variant s.variant fun v => .next (answer (.request (defaulted s.config v c)) s)

/-- `WAIT_TICKS(r)` (42_bus_sequencer.md R124). -/
def execWaitTicks (r : Word16) (s : State) : StepResult :=
  .next (answer (.ticks (waitTicks s.config r)) s)

/-- `RAW16(b0, b1)` (43_sample_converter.md R141). -/
def execRaw16 (b0 b1 : Byte) (s : State) : StepResult :=
  .next (answer (.reading (raw16 b0 b1)) s)

/-- `SHIFT12(raw)` (43_sample_converter.md R142). -/
def execShift12 (raw : Int) (s : State) : StepResult :=
  .next (answer (.reading (shift12 raw)) s)

/-- `CONVERT(v, g, w)` (43_sample_converter.md R143). -/
def execConvert (v : Variant) (g : Gain) (w : Word16) (s : State) : StepResult :=
  .next (answer (.value (convert v g w)) s)

end Sys2Proof.Machine
end

