-- ==== Sys2Proof/Machine/ResetEvent.lean ====
section
/-! DEFINITION. The RESET event (70_reset_and_hazards.md R200, R202). -/

namespace Sys2Proof.Machine

/-- `RESET`, enabled in every state: the twelve elements take their reset values, the
configuration record stands (40_encoding_tables.md R90); a command in progress is abandoned;
nothing is appended to the bus trace (70_reset_and_hazards.md R200, R202). What the environment has seen and will do
stands. -/
def execReset (s : State) : StepResult :=
  .next { State.resetOf s.config with trace := s.trace, inputs := s.inputs, delivered := s.delivered, result := s.result }

end Sys2Proof.Machine
end

