-- ==== Sys2Proof/Machine/Sequencer.lean ====
section
/-! DEFINITION. The phase-selected steps (42_bus_sequencer.md, 44_orchestration.md R161): WRITE_CFG, WAIT.TICK, WAIT.EXIT,
READ_CONV, RESPOND. A step that is not enabled does not fire: nothing changes (log entry 2). -/

namespace Sys2Proof.Machine

/-- `WRITE_CFG` (42_bus_sequencer.md R121). -/
def execWriteCfg (o : WriteOutcome) (s : State) : StepResult :=
  if s.phase = .writeCfg then
    need .cfgWord s.cfgWord fun w =>
      need .devAddr s.devAddr fun a =>
        match o with
        | .fail e => .next (raiseError .busWriteError (e.setWidth 16) (memWrite s.config.ptrConfig a w o s))
        | .ok => need .reqRate s.reqRate fun r => .next (startWait r (memWrite s.config.ptrConfig a w o s))
  else .next s

/-- `WAIT.TICK`: always enabled; counts only in `WAIT`, and not below 0 (42_bus_sequencer.md R125). -/
def execWaitTick (s : State) : StepResult :=
  if s.phase = .wait then
    need .timer s.timer fun t => .next (observe .tick (if t = 0 then s else { s with timer := some (t - 1) }))
  else .next s

/-- `WAIT.EXIT`: enabled when `phase = WAIT` and `timer = 0` (42_bus_sequencer.md R126). -/
def execWaitExit (s : State) : StepResult :=
  if s.phase = .wait then
    need .timer s.timer fun t => .next (if t = 0 then { s with phase := .readConv } else s)
  else .next s

/-- `READ_CONV`, with `CONVERT` on success (42_bus_sequencer.md R127). -/
def execReadConv (o : ReadOutcome) (s : State) : StepResult :=
  if s.phase = .readConv then
    need .devAddr s.devAddr fun a =>
      match o with
      | .fail e => .next (raiseError .busReadError (e.setWidth 16) (memRead s.config.ptrConversion a o s))
      | .ok b0 b1 =>
        need .variant s.variant fun v =>
          need .activeGain s.activeGain fun g =>
            .next (enterRespond 0 0 (convert v g (joinBytes b0 b1))
              { memRead s.config.ptrConversion a o s with rawSample := some (joinBytes b0 b1) })
  else .next s

/-- `RESPOND` (44_orchestration.md R161). -/
def execRespond (s : State) : StepResult :=
  if s.phase = .respond then returnToIdle s else .next s

end Sys2Proof.Machine
end

