-- ==== Sys2Proof/Machine/Dispatch.lean ====
section
/-! DEFINITION. One arm per row of spec/opcode_table.json. -/

namespace Sys2Proof.Machine

def exec (i : Instr) (s : State) : Host.Outcome State Fault Refusal :=
  match i with
  | .nop => Sys2Proof.Machine.execNop s
  | .construct variantSel addr => Sys2Proof.Machine.execConstruct variantSel addr s
  | .readSe ch gain rate => Sys2Proof.Machine.execReadSe ch gain rate s
  | .readDiff pair gain rate => Sys2Proof.Machine.execReadDiff pair gain rate s
  | .accept cmdWord => Sys2Proof.Machine.execAccept cmdWord s
  | .writeCfg o => Sys2Proof.Machine.execWriteCfg o s
  | .waitTick => Sys2Proof.Machine.execWaitTick s
  | .waitExit => Sys2Proof.Machine.execWaitExit s
  | .readConv o => Sys2Proof.Machine.execReadConv o s
  | .respond => Sys2Proof.Machine.execRespond s
  | .w3 word o => Sys2Proof.Machine.execW3 word o s
  | .r1plus2 o => Sys2Proof.Machine.execR1plus2 o s
  | .cfgWord ch gain rate => Sys2Proof.Machine.execCfgWord ch gain rate s
  | .lookupRate w r => Sys2Proof.Machine.execLookupRate w r s
  | .lookupGain w g => Sys2Proof.Machine.execLookupGain w g s
  | .resolveSe c => Sys2Proof.Machine.execResolveSe c s
  | .resolveDiff p n => Sys2Proof.Machine.execResolveDiff p n s
  | .build sel g r => Sys2Proof.Machine.execBuild sel g r s
  | .defaulted c => Sys2Proof.Machine.execDefaulted c s
  | .waitTicks r => Sys2Proof.Machine.execWaitTicks r s
  | .raw16 b0 b1 => Sys2Proof.Machine.execRaw16 b0 b1 s
  | .shift12 raw => Sys2Proof.Machine.execShift12 raw s
  | .convert v g w => Sys2Proof.Machine.execConvert v g w s
  | .reset => Sys2Proof.Machine.execReset s

end Sys2Proof.Machine
end

