-- ==== Sys2Proof/Machine/Fetch.lean ====
section
/-! DEFINITION. Which instruction the next event selects, and how an instruction of the opcode table is placed where the
next step takes it (log entries 2, 16, 17). -/

namespace Sys2Proof.Machine

/-- The instruction an event selects. An offered word is decoded as a command in any phase (44_orchestration.md R155,
R162); `RESET` and `TICK` are enabled in every phase (70_reset_and_hazards.md R200, 42_bus_sequencer.md R125); every
other step is selected by the phase code (30_encoding.md R77). -/
def fetch (s : State) (e : Event) : Except DecodeError Instr :=
  match e with
  | .offer w => decode s.config (.cmd64 w)
  | .tick => .ok .waitTick
  | .reset => .ok .reset
  | .busWrite o => decode s.config (.phase3 (phaseCode s.phase) (.busWrite o))
  | .busRead o => decode s.config (.phase3 (phaseCode s.phase) (.busRead o))
  | .seq => decode s.config (.phase3 (phaseCode s.phase) .seq)
  | .take => decode s.config (.phase3 (phaseCode s.phase) .take)

/-- An event is the next one. -/
def pushEvent (e : Event) (s : State) : State := { s with inputs := e :: s.inputs }

/-- The block as it is in the middle of a command: every element that holds no value yet is given the value it has in
spec/95_test_vectors.md program P2 (a fully defaulted differential read on `STD`); the others stand. -/
def midCommand (p : Phase) (s : State) : State :=
  { s with
    phase := p
    constructed := true
    variant := some (s.variant.getD .std)
    devAddr := some (s.devAddr.getD 0x48)
    activeGain := some (s.activeGain.getD 6144)
    reqRate := some (s.reqRate.getD 1600)
    cfgWord := some (s.cfgWord.getD 0x8183)
    timer := some (s.timer.getD 726)
    rspStatus := some (s.rspStatus.getD 0)
    rspInfo := some (s.rspInfo.getD 0)
    rspValue := some (s.rspValue.getD 0) }

/-- The block as it must be for `cmd_ready(c) = 1` (44_orchestration.md R155). -/
def readyFor (c : Command) (s : State) : State :=
  match c with
  | .nop => s
  | .construct _ _ => { s with phase := .idle, constructed := false }
  | .read _ =>
    { s with phase := .idle, constructed := true, variant := some (s.variant.getD .std), devAddr := some (s.devAddr.getD 0x48) }

/-- A phase-selected step made the next one, its draws zero. -/
def placePhase (s : State) (code : Nat) : State :=
  match code with
  | 0 => pushEvent (.offer 0) { s with phase := .idle }
  | 1 => pushEvent (.busWrite (.fail 0)) (midCommand .writeCfg s)
  | 2 => pushEvent .tick (midCommand .wait s)
  | 3 => pushEvent (.busRead (.fail 0)) (midCommand .readConv s)
  | 4 => pushEvent .take (midCommand .respond s)
  | _ => s

/-- A row of the opcode table made what the next step runs: a command is offered to a block that is ready for it; a
phase code is the phase, with the event its row names; a frame or a configuration word is the one the next bus
transaction carries. -/
def placeWord (s : State) (nbits w : Nat) : State :=
  match nbits with
  | 64 => pushEvent (.offer (BitVec.ofNat 64 w)) (readyFor (decodeCommand (BitVec.ofNat 64 w)) s)
  | 24 => pushEvent (.busWrite (.fail 0)) { midCommand .writeCfg s with cfgWord := some (BitVec.ofNat 16 w) }
  | 16 => pushEvent (.busWrite (.fail 0)) { midCommand .writeCfg s with cfgWord := some (BitVec.ofNat 16 w) }
  | 8 => if w = 0 then placePhase s 3 else placePhase s w
  | 3 => placePhase s w
  | _ => s

end Sys2Proof.Machine
end

