-- ==== Sys2Proof/Machine/Step.lean ====
section
/-! DEFINITION. One step of the machine: the next event is taken from `inputs`, and the instruction it selects runs. -/

namespace Sys2Proof.Machine

/-- One step (00_scope.md R15). With no event coming, nothing happens (70_reset_and_hazards.md R213: quiescent, not
final). An event that no enabled step takes is passed over without effect (log entry 2). -/
def step (s : State) : Host.Outcome State Fault Refusal :=
  match s.inputs with
  | [] => .next s
  | e :: rest =>
    match fetch s e with
    | .ok i => exec i { s with inputs := rest }
    | .error _ => .next { s with inputs := rest }

/-- `s` with an instruction of the opcode table placed where `step` takes its next one (log entry 17). -/
def State.withFetchWord (s : State) (nbits w : Nat) : State := placeWord s nbits w

end Sys2Proof.Machine
end

