-- ==== Sys2Proof/Safety.lean ====
section
/-! DEFINITION. What counts as a safe state and a safe move, in the terms the statements use. -/

namespace Sys2Proof

open Sys2Proof.Machine

/-- `GAINS` in the order of their codes (00_scope.md R6, 40_encoding_tables.md R91). -/
def gains : List Word16 := [6144, 4096, 2048, 1024, 512, 256]

/-- `RATES[v]` in the order of their codes (40_encoding_tables.md R92, R93). -/
def ratesOf (v : Variant) : List Word16 :=
  match v with
  | .hires => [8, 16, 32, 64, 128, 250, 475, 860]
  | .std => [128, 250, 490, 920, 1600, 2400, 3300]

/-- `PAIRS` in the order of their codes (00_scope.md R6, 40_encoding_tables.md R96). -/
def pairs : List (Byte × Byte) := [(0, 1), (0, 3), (1, 3), (2, 3)]

/-- A 3-bit code placed in the rate, gain or channel field (30_encoding.md R71). -/
def rateCode (k : Nat) : Word16 := BitVec.ofNat 16 k <<< 5
def gainCode (k : Nat) : Word16 := BitVec.ofNat 16 k <<< 9
def channelCode (k : Nat) : Word16 := BitVec.ofNat 16 k <<< 12

/-- The code of a legal selector: single-ended channels 0 to 3 are 0b100 to 0b111 (40_encoding_tables.md R95), the
four pairs are 0b000 to 0b011 (R96). -/
def selectorCode (sel : Selector) : Option Nat :=
  match sel with
  | .se c => if c.toNat < 4 then some (4 + c.toNat) else none
  | .diff p n => pairs.idxOf? (p, n)

/-- The bits of a command word that its format examines (30_encoding.md R67 to R69, R75, R78 (b)). -/
def examinedBits (w : CmdWord) : CmdWord :=
  if cmdOp w = 0 then 0xC000000000000000
  else if cmdOp w = 1 then 0xC000FF7F00000000
  else
    0xF800000000000000 |||
      (if cmdHasSel w then (if cmdOp w = 2 then 0x0000FF0000000000 else 0x0000FFFF00000000) else 0) |||
      (if cmdHasGain w then 0x00000000FFFF0000 else 0) ||| (if cmdHasRate w then 0x000000000000FFFF else 0)

/-- The rows of format FUNC, and the composer of the configuration word: pure rows (41_config_builder.md R114,
43_sample_converter.md R152). -/
def isFunction (i : Instr) : Bool :=
  match i with
  | .cfgWord _ _ _ => true
  | .lookupRate _ _ => true
  | .lookupGain _ _ => true
  | .resolveSe _ => true
  | .resolveDiff _ _ => true
  | .build _ _ _ => true
  | .defaulted _ => true
  | .waitTicks _ => true
  | .raw16 _ _ => true
  | .shift12 _ => true
  | .convert _ _ _ => true
  | .nop => false
  | .construct _ _ => false
  | .readSe _ _ _ => false
  | .readDiff _ _ _ => false
  | .accept _ => false
  | .writeCfg _ => false
  | .waitTick => false
  | .waitExit => false
  | .readConv _ => false
  | .respond => false
  | .w3 _ _ => false
  | .r1plus2 _ => false
  | .reset => false

/-- The phases of a read command in progress (10_state.md R34 (b)). -/
def inFlight (p : Phase) : Bool :=
  match p with
  | .writeCfg => true
  | .wait => true
  | .readConv => true
  | .idle => false
  | .respond => false

/-- A driver is bound exactly when `constructed`, and an unconstructed block runs no read command
(10_state.md R26 to R28, R34 (c)). -/
def Bound (s : State) : Prop :=
  s.variant.isSome = s.constructed ∧ s.devAddr.isSome = s.constructed ∧
    (s.constructed = false → s.phase = .idle ∨ s.phase = .respond)

/-- The three request latches are those of one accepted command whose `BUILD` succeeded for the bound variant
(10_state.md R34 (b), 41_config_builder.md R112). -/
def LatchedRequest (s : State) : Prop :=
  ∃ v sel g r w, s.variant = some v ∧ s.activeGain = some (g.setWidth 13) ∧ s.reqRate = some r ∧
    s.cfgWord = some w ∧ build s.config v sel g r = .word w

/-- The latches are written together or not at all, and are written while a read command is in progress. -/
def Latches (s : State) : Prop :=
  (s.activeGain = none ∧ s.reqRate = none ∧ s.cfgWord = none ∧ inFlight s.phase = false) ∨ LatchedRequest s

/-- Since the trace `pre`, the block has written `w` to `a` with outcome ok and then counted `k` ticks, and nothing
else happened on the bus (42_bus_sequencer.md R134). -/
def WroteThenTicked (s : State) (pre : List BusEvent) (a : DevAddr) (w : Word16) (k : Nat) : Prop :=
  s.trace = pre ++ [.write a [s.config.ptrConfig, hiByte w, loByte w] .ok] ++ List.replicate k .tick

/-- The timer holds a number of `W_TIMER` bits (10_state.md R30, 00_scope.md R8). -/
def TimerFits (s : State) : Prop := ∀ n, s.timer = some n → n < 2 ^ timerWidth s.config

/-- THE SETTLE DELAY (42_bus_sequencer.md R126, 20_memory.md R58): in `WAIT` the ticks counted and the ticks to come
make at least `WAIT_TICKS(req_rate)`, and in `READ_CONV` that many have been counted since the ok write of the latched
word. -/
def Settles (s : State) : Prop :=
  (s.phase = .wait → ∃ pre a w r n k, s.devAddr = some a ∧ s.cfgWord = some w ∧ s.reqRate = some r ∧
      s.timer = some n ∧ WroteThenTicked s pre a w k ∧ waitTicks s.config r ≤ k + n) ∧
    (s.phase = .readConv → ∃ pre a w r k, s.devAddr = some a ∧ s.cfgWord = some w ∧ s.reqRate = some r ∧
      WroteThenTicked s pre a w k ∧ waitTicks s.config r ≤ k)

/-- In `RESPOND` there is a response of one of the eight statuses; an error has value 0 and OK has information 0
(30_encoding.md R70, 60_exceptions.md R176). -/
def Answered (s : State) : Prop :=
  s.phase = .respond → ∃ st i v, s.rspStatus = some st ∧ s.rspInfo = some i ∧ s.rspValue = some v ∧
    st.toNat ≤ 7 ∧ (st ≠ 0 → v = 0) ∧ (st = 0 → i = 0)

/-- The invariant of the block (10_state.md R34), for every configuration that meets the spec's constraints
(40_encoding_tables.md R100). -/
def BlockInv (s : State) : Prop :=
  tablesValid s.config = true ∧ Bound s ∧ Latches s ∧ TimerFits s ∧ Settles s ∧ Answered s

/-- The bound variant and what `BUILD` answers for the read command `c` (44_orchestration.md R158). -/
def BuildsTo (s : State) (c : ReadCmd) (b : Built) : Prop :=
  ∃ v, s.variant = some v ∧ buildRequest s.config v (defaulted s.config v c) = b

/-- The condition of each way `phase` changes, on an event `e`: the table of 42_bus_sequencer.md R133 row by row. No
other pair is allowed. -/
def AllowedMove (s t : State) (e : Event) : Prop :=
  match s.phase, t.phase with
  | .idle, .respond =>
    ∃ w, e = .offer w ∧ cmdReady (decodeCommand w) s = true ∧
      ((∃ v a, decodeCommand w = .construct v a) ∨
        ∃ c k info, decodeCommand w = .read c ∧ BuildsTo s c (.raised k info))
  | .idle, .writeCfg =>
    ∃ w c x, e = .offer w ∧ cmdReady (decodeCommand w) s = true ∧ decodeCommand w = .read c ∧ BuildsTo s c (.word x)
  | .writeCfg, .wait => e = .busWrite .ok
  | .writeCfg, .respond => ∃ x, e = .busWrite (.fail x)
  | .wait, .readConv => e = .seq ∧ s.timer = some 0
  | .readConv, .respond => ∃ o, e = .busRead o
  | .respond, .idle => e = .take ∨ e = .reset
  | _, .idle => e = .reset
  | _, _ => False

end Sys2Proof
end

