-- ==== Sys2Proof/Certificates/Slice0/Obligations.lean ====
section
/-! DEFINITION. The statements for the provers, in the order of the spec's files. They speak of every configuration
record (`s.config`): the spec leaves it open (92_eei_decisions.md D2, D5, D10, D22; log entry 27). What the adopted
instance's codes, rate lists, bit positions and pointers are rests on general knowledge, no source's (LOG ENTRY 10), its
tick rate and margin on decision D10 (LOG ENTRY 11), its missing eighth STD rate on decision D22 (LOG ENTRY 12), its
default operands on decision D5 (LOG ENTRY 13): `AdoptedInstanceIsTheListedOne` states them in one place, and a statement
or clause about the adopted instance names the entries it rests on. -/

open Sys2Proof Sys2Proof.Machine

/-! ### Encodings (30_encoding.md, 40_encoding_tables.md) -/

/-- Words written out from 30_encoding.md R65 to R73, R77 (spec/95_test_vectors.md 2.2, 2.6) decode to what they stand
for (the pointers and the layout of the configuration word: LOG ENTRY 10). -/
def Obligations.KnownWordsDecode : Prop :=
  decode adopted (.cmd64 0x3FFFFFFFFFFFFFFF) = .ok .nop ∧
  decode adopted (.cmd64 0x4000014800000000) = .ok (.construct 1 0x48) ∧
  decode adopted (.cmd64 0xB800010010000080) = .ok (.readSe (some 1) (some 4096) (some 128)) ∧
  decode adopted (.cmd64 0x8000FF00FFFFFFFF) = .ok (.readSe none none none) ∧
  decode adopted (.cmd64 0xF800020118000640) = .ok (.readDiff (some (2, 1)) (some 6144) (some 1600)) ∧
  decode adopted (.phase3 1 (.busWrite .ok)) = .ok (.writeCfg .ok) ∧
  decode adopted (.phase3 2 .seq) = .ok .waitExit ∧
  decode adopted (.phase3 5 .tick) = .error .unusedPhaseCode ∧
  decode adopted (.frame24 0x01D383 .ok) = .ok (.w3 0xD383 .ok) ∧
  decode adopted (.frame8 0x00 (.ok 0x12 0x34)) = .ok (.r1plus2 (.ok 0x12 0x34)) ∧
  decode adopted (.cfg16 0xD383) = .ok (.cfgWord 0b101 0b001 0b100)

/-- Decoding an encoded well-formed instruction gives it back, with every operand at every value and in every
configuration: the four commands, the six phase steps, the two frames and the configuration word. -/
def Obligations.EncodeThenDecode : Prop :=
  ∀ (cfg : Config) (i : Instr) (x : Encoded), i.wf = true → encode cfg i = some x → decode cfg x = .ok i

/-- 30_encoding.md R78 (b), (c): every 64-bit word decodes to a well-formed command, and two words that agree on the
bits the first one's format examines decode alike. -/
def Obligations.UnexaminedCommandBitsAreIgnored : Prop :=
  (∀ (cfg : Config) (w : CmdWord), ∃ i, decode cfg (.cmd64 w) = .ok i ∧ i.wf = true) ∧
  ∀ w w' : CmdWord, w &&& examinedBits w = w' &&& examinedBits w → decodeCommand w = decodeCommand w'

/-- 30_encoding.md R79, 41_config_builder.md R110: every word `BUILD` produces has the fixed bits of CFG16, a gain code
of at most 5, and is the word composed of its three codes (LOG ENTRY 10). -/
def Obligations.BuiltWordsAreConfigurationWords : Prop :=
  ∀ (v : Variant) (sel : Selector) (g r w : Word16), build adopted v sel g r = .word w →
    w.getLsbD 15 = true ∧ w.getLsbD 8 = true ∧ w.extractLsb' 2 3 = 0 ∧ w.extractLsb' 0 2 = 0b11 ∧
    ∃ c k d, k ≤ 5 ∧ decode adopted (.cfg16 w) = .ok (.cfgWord c k d) ∧ composeCfgWord c k d = w

/-- 40_encoding_tables.md R100: the adopted instance meets the six constraints (and R99's distinct pointers);
the instance is LOG ENTRY 10. -/
def Obligations.AdoptedTablesAreValid : Prop := tablesValid adopted = true

/-- 41_config_builder.md R111: in EVERY valid instance of the tables, the five masks of a built word hold the default
word, the channel field, the gain field, the rate field and the start flag, exactly. -/
def Obligations.BuiltWordHoldsExactlyItsFields : Prop :=
  ∀ (cfg : Config) (v : Variant) (sel : Selector) (g r w : Word16), tablesValid cfg = true →
    build cfg v sel g r = .word w →
    w &&& cfg.maskDefault = cfg.defaultWord ∧ w &&& cfg.maskStart = cfg.startFlag ∧
    resolve cfg sel = .word (w &&& cfg.maskCh) ∧ cfg.gainField.lookup g = some (w &&& cfg.maskGain) ∧
    (rateField cfg v).lookup r = some (w &&& cfg.maskRate)

/-- 40_encoding_tables.md R100 (b), (c), 41_config_builder.md R111: in every valid instance, different legal settings
build different words. -/
def Obligations.BuildIsInjective : Prop :=
  ∀ (cfg : Config) (v : Variant) (sel sel' : Selector) (g g' r r' w : Word16), tablesValid cfg = true →
    build cfg v sel g r = .word w → build cfg v sel' g' r' = .word w → sel = sel' ∧ g = g' ∧ r = r'

/-! ### The encoder's rows (41_config_builder.md, 44_orchestration.md R157) -/

/-- 41_config_builder.md R105: a rate of the variant's table adds its field; any other rate raises InvalidSampleRate
naming it. Nothing but the observer's `result` changes. In the adopted instance the k-th rate adds code k at bits 7:5
(LOG ENTRIES 10, 12). -/
def Obligations.LookupRateAddsTheRateField : Prop :=
  ∀ (w r : Word16) (v : Variant) (s : State), s.variant = some v →
    (∀ f, (rateField s.config v).lookup r = some f →
      exec (.lookupRate w r) s = .next { s with result := some (.built (.word (w ||| f))) }) ∧
    (r ∉ ratesIn s.config v →
      exec (.lookupRate w r) s = .next { s with result := some (.built (.raised .invalidSampleRate r)) }) ∧
    (s.config = adopted →
      (∀ k, (ratesOf v)[k]? = some r →
        exec (.lookupRate w r) s = .next { s with result := some (.built (.word (w ||| rateCode k))) }) ∧
      (r ∉ ratesOf v →
        exec (.lookupRate w r) s = .next { s with result := some (.built (.raised .invalidSampleRate r)) }))

/-- 41_config_builder.md R106: a gain of the table adds its field; any other gain raises InvalidGain. It is pure. In the
adopted instance the k-th of the six gains adds code k at bits 11:9 (LOG ENTRY 10). -/
def Obligations.LookupGainAddsTheGainField : Prop :=
  ∀ (w g : Word16) (s : State),
    (∀ f, s.config.gainField.lookup g = some f →
      exec (.lookupGain w g) s = .next { s with result := some (.built (.word (w ||| f))) }) ∧
    (g ∉ s.config.gainField.map Prod.fst →
      exec (.lookupGain w g) s = .next { s with result := some (.built (.raised .invalidGain g)) }) ∧
    (s.config = adopted →
      (∀ k, gains[k]? = some g →
        exec (.lookupGain w g) s = .next { s with result := some (.built (.word (w ||| gainCode k))) }) ∧
      (g ∉ gains →
        exec (.lookupGain w g) s = .next { s with result := some (.built (.raised .invalidGain g)) }))

/-- 41_config_builder.md R107: a channel of the table gives its field; any other raises InvalidChannel. In the adopted
instance channels 0 to 3 give codes 0b100 to 0b111 at bits 14:12 and 4 to 255 raise (LOG ENTRY 10). -/
def Obligations.ResolveSeGivesTheChannelField : Prop :=
  ∀ (c : Byte) (s : State),
    (∀ f, s.config.seField.lookup c = some f →
      exec (.resolveSe c) s = .next { s with result := some (.built (.word f)) }) ∧
    (c ∉ s.config.seField.map Prod.fst →
      exec (.resolveSe c) s = .next { s with result := some (.built (.raised .invalidChannel (c.setWidth 16))) }) ∧
    (s.config = adopted →
      (c.toNat < 4 →
        exec (.resolveSe c) s = .next { s with result := some (.built (.word (channelCode (4 + c.toNat)))) }) ∧
      (4 ≤ c.toNat →
        exec (.resolveSe c) s =
          .next { s with result := some (.built (.raised .invalidChannel (BitVec.ofNat 16 c.toNat))) }))

/-- 41_config_builder.md R108: an ordered pair of the table gives its field, a field of zero included; any other pair, a
member above 3 included, raises InvalidChannelPair with P in the high byte. In the adopted instance the k-th legal pair
gives code k (LOG ENTRY 10). -/
def Obligations.ResolveDiffGivesThePairField : Prop :=
  ∀ (p n : Byte) (s : State),
    (∀ f, s.config.diffField.lookup (p, n) = some f →
      exec (.resolveDiff p n) s = .next { s with result := some (.built (.word f)) }) ∧
    ((p, n) ∉ s.config.diffField.map Prod.fst →
      exec (.resolveDiff p n) s =
        .next { s with result := some (.built (.raised .invalidChannelPair (BitVec.ofNat 16 (256 * p.toNat + n.toNat)))) }) ∧
    (s.config = adopted →
      (∀ k, pairs[k]? = some (p, n) →
        exec (.resolveDiff p n) s = .next { s with result := some (.built (.word (channelCode k))) }) ∧
      ((p, n) ∉ pairs →
        exec (.resolveDiff p n) s =
          .next { s with
            result := some (.built (.raised .invalidChannelPair (BitVec.ofNat 16 (256 * p.toNat + n.toNat)))) }))

/-- 41_config_builder.md R109, R110: on operands of the tables the word is the default word, the three fields and the
start flag; otherwise the first failure in the order rate, gain, channel or pair (decision D8, LOG ENTRY 14) is raised. In
the adopted instance the word is 0x8103 with the three codes (LOG ENTRY 10). -/
def Obligations.BuildGivesTheWordOrTheFirstError : Prop :=
  ∀ (sel : Selector) (g r : Word16) (v : Variant) (s : State), s.variant = some v →
    (∀ fr fg fc, (rateField s.config v).lookup r = some fr → s.config.gainField.lookup g = some fg →
      resolve s.config sel = .word fc →
      exec (.build sel g r) s =
        .next { s with
          result := some (.built (.word (s.config.defaultWord ||| fc ||| fg ||| fr ||| s.config.startFlag))) }) ∧
    (r ∉ ratesIn s.config v →
      exec (.build sel g r) s = .next { s with result := some (.built (.raised .invalidSampleRate r)) }) ∧
    (r ∈ ratesIn s.config v → g ∉ s.config.gainField.map Prod.fst →
      exec (.build sel g r) s = .next { s with result := some (.built (.raised .invalidGain g)) }) ∧
    (r ∈ ratesIn s.config v → g ∈ s.config.gainField.map Prod.fst →
      ∀ c : Byte, sel = .se c → c ∉ s.config.seField.map Prod.fst →
      exec (.build sel g r) s = .next { s with result := some (.built (.raised .invalidChannel (c.setWidth 16))) }) ∧
    (r ∈ ratesIn s.config v → g ∈ s.config.gainField.map Prod.fst →
      ∀ p n : Byte, sel = .diff p n → (p, n) ∉ s.config.diffField.map Prod.fst →
      exec (.build sel g r) s = .next { s with result := some (.built (.raised .invalidChannelPair (joinBytes p n))) }) ∧
    (s.config = adopted → ∀ kr kg ks, (ratesOf v)[kr]? = some r → gains[kg]? = some g → selectorCode sel = some ks →
      exec (.build sel g r) s =
        .next { s with result := some (.built (.word (0x8103 ||| channelCode ks ||| gainCode kg ||| rateCode kr))) })

/-- 30_encoding.md R71, 41_config_builder.md R110: the composed configuration word is the fixed bits 0x8103 (start flag,
single-shot mode, comparator off) with the three codes in their fields (layout: LOG ENTRY 10). That the row
composes gain codes 6 and 7 too, which R79 says are never produced, is LOG ENTRY 22 alone. -/
def Obligations.ConfigurationWordComposesItsCodes : Prop :=
  ∀ (c k d : BitVec 3) (s : State),
    exec (.cfgWord c k d) s =
      .next { s with
        result := some (.word (0x8103 ||| channelCode c.toNat ||| gainCode k.toNat ||| rateCode d.toNat)) }

/-- 44_orchestration.md R157: absent operands take the configuration's defaults, the rate the variant's own, present
ones stand; and in every configuration that meets 40_encoding_tables.md R100 a fully defaulted command cannot fail
validation. -/
def Obligations.DefaultsAreSubstitutedAndValid : Prop :=
  (∀ (ch : Option Byte) (g r : Option Word16) (v : Variant) (s : State), r.isSome = true ∨ s.variant = some v →
    exec (.defaulted (.se ch g r)) s =
      .next { s with
        result := some (.request
          ⟨.se (ch.getD s.config.defaultChannel), g.getD s.config.defaultGain,
            r.getD (if v = .hires then s.config.defaultRateHires else s.config.defaultRateStd)⟩) }) ∧
  (∀ (p : Option (Byte × Byte)) (g r : Option Word16) (v : Variant) (s : State), r.isSome = true ∨ s.variant = some v →
    exec (.defaulted (.diff p g r)) s =
      .next { s with
        result := some (.request
          ⟨.diff (p.getD s.config.defaultPair).1 (p.getD s.config.defaultPair).2, g.getD s.config.defaultGain,
            r.getD (if v = .hires then s.config.defaultRateHires else s.config.defaultRateStd)⟩) }) ∧
  (∀ (v : Variant) (s : State), tablesValid s.config = true → s.phase = .idle → s.constructed = true →
    s.variant = some v →
    (∃ t, exec (.readSe none none none) s = .next t ∧ t.phase = .writeCfg) ∧
    ∃ t, exec (.readDiff none none none) s = .next t ∧ t.phase = .writeCfg)

/-! ### The delay and the converter (42_bus_sequencer.md R122, R124, 43_sample_converter.md) -/

/-- 42_bus_sequencer.md R124, 00_scope.md R8: for every tick rate `WAIT_TICKS(r)` is the exact ceiling of TICK_HZ / r,
plus the margin, the ceiling of TICK_HZ / 10000, plus 1, for r at least 1. At r = 0, where the spec gives no value, the
row still completes, with a free value (LOG ENTRY 15, the model's choice). -/
def Obligations.WaitTicksIsTheCeilingPlusMargin : Prop :=
  ∀ (r : Word16) (s : State),
    (r ≠ 0 → exec (.waitTicks r) s =
      .next { s with
        result := some (.ticks (⌈(s.config.tickHz : ℚ) / r.toNat⌉₊ + ⌈(s.config.tickHz : ℚ) / 10000⌉₊ + 1)) }) ∧
    (r = 0 → ∃ n, exec (.waitTicks r) s = .next { s with result := some (.ticks n) })

/-- 42_bus_sequencer.md R122, R124: for every tick rate and every positive sample rate, one tick less than `WAIT_TICKS`
is at least 1 / rate + 0.1 ms. -/
def Obligations.WaitTicksCoverTheSettleDelay : Prop :=
  ∀ (cfg : Config) (r : Word16), 0 < cfg.tickHz → r ≠ 0 →
    (1 : ℚ) / r.toNat + 1 / 10000 ≤ ((waitTicks cfg r : ℚ) - 1) / cfg.tickHz

/-- 00_scope.md R8, 10_state.md R30: in every configuration the timer holds the delay of every legal rate unchanged, and
in one that meets 40_encoding_tables.md R100 it is the least width that does. In the adopted instance the delays are those
of 42_bus_sequencer.md R124's table and the width is 17 (LOG ENTRIES 10, 11; that STD has these seven rates only, LOG ENTRY
12). -/
def Obligations.LegalDelaysFitTheTimer : Prop :=
  (∀ (cfg : Config) (v : Variant) (r : Word16), r ∈ ratesIn cfg v →
    1 ≤ waitTicks cfg r ∧ waitTicks cfg r % 2 ^ timerWidth cfg = waitTicks cfg r) ∧
  (∀ cfg : Config, tablesValid cfg = true → ∃ v, ∃ r ∈ ratesIn cfg v, 2 ^ (timerWidth cfg - 1) ≤ waitTicks cfg r) ∧
  (ratesOf .hires).map (waitTicks adopted) = [125101, 62601, 31351, 15726, 7914, 4101, 2207, 1264] ∧
  (ratesOf .std).map (waitTicks adopted) = [7914, 4101, 2142, 1188, 726, 518, 405] ∧ timerWidth adopted = 17

/-- 43_sample_converter.md R141: the first byte is the high one, and the word is read as two's complement. -/
def Obligations.Raw16ReadsBigEndianTwosComplement : Prop :=
  ∀ (b0 b1 : Byte) (s : State),
    exec (.raw16 b0 b1) s =
      .next { s with
        result := some (.reading
          (if 256 * b0.toNat + b1.toNat < 32768 then (256 * b0.toNat + b1.toNat : Int)
           else (256 * b0.toNat + b1.toNat : Int) - 65536)) }

/-- 43_sample_converter.md R142: the shift is the floor of raw / 16; on a word's reading it is the word's upper twelve
bits read as a signed number, so between -2048 and 2047. -/
def Obligations.Shift12IsTheFloorOfSixteenths : Prop :=
  (∀ (raw : Int) (s : State), ∃ q : Int, exec (.shift12 raw) s = .next { s with result := some (.reading q) } ∧
    16 * q ≤ raw ∧ raw < 16 * q + 16) ∧
  ∀ (u : Word16) (s : State),
    exec (.shift12 u.toInt) s = .next { s with result := some (.reading (u.extractLsb' 4 12).toInt) } ∧
    -2048 ≤ (u.extractLsb' 4 12).toInt ∧ (u.extractLsb' 4 12).toInt ≤ 2047

/-- 43_sample_converter.md R143 to R146: the Q15 value is exact. On HIRES it is raw * g / 32768 millivolts; on STD it is
floor(raw / 16) * g / 2048. -/
def Obligations.ConvertIsExact : Prop :=
  ∀ (g : Gain) (w : Word16) (s : State),
    (∃ q : BitVec 32, exec (.convert .hires g w) s = .next { s with result := some (.value q) } ∧
      (q.toInt : ℚ) / 32768 = (w.toInt : ℚ) * g.toNat / 32768) ∧
    ∃ q : BitVec 32, exec (.convert .std g w) s = .next { s with result := some (.value q) } ∧
      (q.toInt : ℚ) / 32768 = (⌊(w.toInt : ℚ) / 16⌋ : ℚ) * g.toNat / 2048

/-- 43_sample_converter.md R148: the range of the result for each variant and gain; |q| < 2^28. -/
def Obligations.ConvertStaysInRange : Prop :=
  ∀ (v : Variant) (g : Gain) (w : Word16),
    -32768 * (g.toNat : Int) ≤ (convert v g w).toInt ∧
    (convert v g w).toInt ≤ (if v = .hires then 32767 else 32752) * (g.toNat : Int) ∧
    |(convert v g w).toInt| < 2 ^ 28

/-- 43_sample_converter.md R142, R143 (spec/95_test_vectors.md 2.5): a standard reading is the high-resolution reading
of the word with its low four bits cleared, so it does not depend on them. -/
def Obligations.StdIgnoresTheLowFourBits : Prop :=
  ∀ (g : Gain) (w : Word16), convert .std g w = convert .hires g (w &&& 0xFFF0)

/-! ### Reset (70_reset_and_hazards.md) -/

/-- 70_reset_and_hazards.md R201: the reset value of the twelve elements and the derived signals right after reset, in
every configuration (`State.reset` is the adopted one's). -/
def Obligations.ResetLeavesOnlyPhaseAndConstructed : Prop :=
  ∀ (cfg : Config) (z : State), z = State.resetOf cfg →
    z.phase = .idle ∧ z.constructed = false ∧ z.variant = none ∧ z.devAddr = none ∧ z.activeGain = none ∧
    z.reqRate = none ∧ z.cfgWord = none ∧ z.timer = none ∧ z.rawSample = none ∧
    z.rspStatus = none ∧ z.rspInfo = none ∧ z.rspValue = none ∧
    busy z = false ∧ rspValid z = false ∧ busReqValid z = false ∧
    ∀ c, cmdReady c z = true ↔ ∃ v a, c = .construct v a

/-- 70_reset_and_hazards.md R200, R202: RESET is taken in every state, gives the twelve elements their reset values,
appends nothing to the trace, delivers no response and leaves the configuration record; after it only CONSTRUCT is
acceptable. -/
def Obligations.ResetEventRestoresTheResetState : Prop :=
  ∀ s : State,
    exec .reset s =
      .next { State.resetOf s.config with trace := s.trace, inputs := s.inputs, delivered := s.delivered, result := s.result } ∧
    ∀ rest, s.inputs = .reset :: rest → ∃ t, step s = .next t ∧ t.phase = .idle ∧ t.constructed = false ∧
      t.variant = none ∧ t.devAddr = none ∧ t.activeGain = none ∧ t.reqRate = none ∧ t.cfgWord = none ∧
      t.timer = none ∧ t.rawSample = none ∧ t.rspStatus = none ∧ t.rspInfo = none ∧ t.rspValue = none ∧
      t.config = s.config ∧ t.trace = s.trace ∧ t.delivered = s.delivered ∧ t.inputs = rest ∧
      ∀ c, cmdReady c t = true ↔ ∃ v a, c = .construct v a

/-! ### Commands (44_orchestration.md) -/

/-- 44_orchestration.md R155: when a command is accepted, and that one which is not changes nothing, whether it is
offered as a row, as ACCEPT or as an event. -/
def Obligations.OnlyReadyCommandsAreAccepted : Prop :=
  (∀ (c : Command) (s : State), cmdReady c s = true ↔
    s.phase = .idle ∧ ((∃ v a, c = .construct v a) ∧ s.constructed = false ∨
      (∃ r, c = .read r) ∧ s.constructed = true)) ∧
  (∀ (w : CmdWord) (s : State), cmdReady (decodeCommand w) s = false →
    exec (.accept w) s = .next s ∧ exec (commandInstr (decodeCommand w)) s = .next s ∧
    ∀ rest, s.inputs = .offer w :: rest → step s = .next { s with inputs := rest })

/-- 44_orchestration.md R155: ACCEPT of a word is the row of the command the word decodes to. -/
def Obligations.AcceptRunsTheOfferedCommand : Prop :=
  ∀ (w : CmdWord) (s : State), exec (.accept w) s = exec (commandInstr (decodeCommand w)) s

/-- 44_orchestration.md R155, 42_bus_sequencer.md R133: an accepted command completes its accepting step: the block is
then writing the configuration or answering, and nothing has been put on the bus (41_config_builder.md R113). -/
def Obligations.AcceptCompletes : Prop :=
  ∀ (w : CmdWord) (s : State), cmdReady (decodeCommand w) s = true → (s.constructed = true → s.variant.isSome = true) →
    ∃ t, exec (.accept w) s = .next t ∧ (t.phase = .writeCfg ∨ t.phase = .respond) ∧ t.trace = s.trace

/-- 44_orchestration.md R160: NOP changes nothing in any state, is never acceptable, and the words of opcode 0 are
NOP. -/
def Obligations.NopIsInert : Prop :=
  ∀ s : State, exec .nop s = .next s ∧ cmdReady .nop s = false ∧
    ∀ w : CmdWord, cmdOp w = 0 → exec (.accept w) s = .next s ∧
      decode s.config (.cmd64 w) = .ok .nop ∧ ∀ rest, s.inputs = .offer w :: rest → step s = .next { s with inputs := rest }

/-- 44_orchestration.md R156: a legal CONSTRUCT binds the variant and the address and answers OK; an unknown variant
answers InvalidVariant and binds nothing. -/
def Obligations.ConstructBindsOrRejects : Prop :=
  ∀ (sel : Byte) (addr : DevAddr) (s : State), s.phase = .idle → s.constructed = false →
    (sel.toNat ≤ 1 →
      exec (.construct sel addr) s =
        .next { s with
          variant := some (if sel = 1 then .hires else .std), devAddr := some addr, constructed := true,
          phase := .respond, rspStatus := some 0, rspInfo := some 0, rspValue := some 0 }) ∧
    (2 ≤ sel.toNat →
      exec (.construct sel addr) s =
        .next { s with
          phase := .respond, rspStatus := some 1, rspInfo := some (BitVec.ofNat 16 sel.toNat), rspValue := some 0 })

/-- 44_orchestration.md R158, 41_config_builder.md R112: an accepted READ_SE whose operands after defaulting are in the
tables latches gain, rate and the word of R110 and goes to WRITE_CFG, and changes nothing else. The 13-bit latch loses
nothing of a gain of a configuration that meets R100 (of any other gain it keeps the low bits, LOG ENTRY 20). -/
def Obligations.ReadSeLatchesALegalRequest : Prop :=
  ∀ (ch : Option Byte) (gain rate : Option Word16) (v : Variant) (s : State) (g r fr fg fc : Word16) (c : Byte),
    s.phase = .idle → s.constructed = true → s.variant = some v →
    c = ch.getD s.config.defaultChannel → g = gain.getD s.config.defaultGain →
    r = rate.getD (defaultRate s.config v) →
    s.config.seField.lookup c = some fc → s.config.gainField.lookup g = some fg →
    (rateField s.config v).lookup r = some fr →
    exec (.readSe ch gain rate) s =
      .next { s with
        activeGain := some (g.setWidth 13), reqRate := some r,
        cfgWord := some (s.config.defaultWord ||| fc ||| fg ||| fr ||| s.config.startFlag), phase := .writeCfg } ∧
    (tablesValid s.config = true → (g.setWidth 13 : Gain).toNat = g.toNat)

/-- 44_orchestration.md R158, 41_config_builder.md R109, 60_exceptions.md R176, R179: an accepted READ_SE with an
operand outside its table answers the first error in the order rate, gain, channel (decision D8, LOG ENTRY 14), and
writes nothing but the response. -/
def Obligations.ReadSeRejectsInOrder : Prop :=
  ∀ (ch : Option Byte) (gain rate : Option Word16) (v : Variant) (s : State) (g r : Word16) (c : Byte),
    s.phase = .idle → s.constructed = true → s.variant = some v →
    c = ch.getD s.config.defaultChannel → g = gain.getD s.config.defaultGain →
    r = rate.getD (defaultRate s.config v) →
    (r ∉ ratesIn s.config v → exec (.readSe ch gain rate) s =
      .next { s with phase := .respond, rspStatus := some 2, rspInfo := some r, rspValue := some 0 }) ∧
    (r ∈ ratesIn s.config v → g ∉ s.config.gainField.map Prod.fst → exec (.readSe ch gain rate) s =
      .next { s with phase := .respond, rspStatus := some 3, rspInfo := some g, rspValue := some 0 }) ∧
    (r ∈ ratesIn s.config v → g ∈ s.config.gainField.map Prod.fst → c ∉ s.config.seField.map Prod.fst →
      exec (.readSe ch gain rate) s =
        .next { s with phase := .respond, rspStatus := some 4, rspInfo := some (c.setWidth 16), rspValue := some 0 })

/-- 44_orchestration.md R159, 41_config_builder.md R112: READ_DIFF whose operands after defaulting are in the tables
latches the request in differential mode (LOG ENTRY 20 as for READ_SE). -/
def Obligations.ReadDiffLatchesALegalRequest : Prop :=
  ∀ (pair : Option (Byte × Byte)) (gain rate : Option Word16) (v : Variant) (s : State) (g r fr fg fc : Word16)
    (p n : Byte),
    s.phase = .idle → s.constructed = true → s.variant = some v →
    (p, n) = pair.getD s.config.defaultPair → g = gain.getD s.config.defaultGain →
    r = rate.getD (defaultRate s.config v) →
    s.config.diffField.lookup (p, n) = some fc → s.config.gainField.lookup g = some fg →
    (rateField s.config v).lookup r = some fr →
    exec (.readDiff pair gain rate) s =
      .next { s with
        activeGain := some (g.setWidth 13), reqRate := some r,
        cfgWord := some (s.config.defaultWord ||| fc ||| fg ||| fr ||| s.config.startFlag), phase := .writeCfg } ∧
    (tablesValid s.config = true → (g.setWidth 13 : Gain).toNat = g.toNat)

/-- 44_orchestration.md R159: READ_DIFF with an operand outside its table answers the first error in the order rate,
gain, pair (LOG ENTRY 14); an illegal member is an error of the pair. -/
def Obligations.ReadDiffRejectsInOrder : Prop :=
  ∀ (pair : Option (Byte × Byte)) (gain rate : Option Word16) (v : Variant) (s : State) (g r : Word16) (p n : Byte),
    s.phase = .idle → s.constructed = true → s.variant = some v →
    (p, n) = pair.getD s.config.defaultPair → g = gain.getD s.config.defaultGain →
    r = rate.getD (defaultRate s.config v) →
    (r ∉ ratesIn s.config v → exec (.readDiff pair gain rate) s =
      .next { s with phase := .respond, rspStatus := some 2, rspInfo := some r, rspValue := some 0 }) ∧
    (r ∈ ratesIn s.config v → g ∉ s.config.gainField.map Prod.fst → exec (.readDiff pair gain rate) s =
      .next { s with phase := .respond, rspStatus := some 3, rspInfo := some g, rspValue := some 0 }) ∧
    (r ∈ ratesIn s.config v → g ∈ s.config.gainField.map Prod.fst → (p, n) ∉ s.config.diffField.map Prod.fst →
      exec (.readDiff pair gain rate) s =
        .next { s with phase := .respond, rspStatus := some 5, rspInfo := some (joinBytes p n), rspValue := some 0 })

/-- 41_config_builder.md R112, R113, 44_orchestration.md R156: the frames of the commands. CONSTRUCT leaves the latches,
the timer and the sample; the read commands leave the binding, the timer and the sample; none of them touches the
bus. -/
def Obligations.CommandFrames : Prop :=
  (∀ (sel : Byte) (addr : DevAddr) (s t : State), exec (.construct sel addr) s = .next t →
    t = { s with
      phase := t.phase, constructed := t.constructed, variant := t.variant, devAddr := t.devAddr,
      rspStatus := t.rspStatus, rspInfo := t.rspInfo, rspValue := t.rspValue }) ∧
  (∀ (ch : Option Byte) (gain rate : Option Word16) (s t : State), exec (.readSe ch gain rate) s = .next t →
    t = { s with
      phase := t.phase, activeGain := t.activeGain, reqRate := t.reqRate, cfgWord := t.cfgWord,
      rspStatus := t.rspStatus, rspInfo := t.rspInfo, rspValue := t.rspValue }) ∧
  (∀ (pair : Option (Byte × Byte)) (gain rate : Option Word16) (s t : State),
    exec (.readDiff pair gain rate) s = .next t →
    t = { s with
      phase := t.phase, activeGain := t.activeGain, reqRate := t.reqRate, cfgWord := t.cfgWord,
      rspStatus := t.rspStatus, rspInfo := t.rspInfo, rspValue := t.rspValue })

/-! ### The sequencer (42_bus_sequencer.md, 44_orchestration.md R161) -/

/-- 42_bus_sequencer.md R121, R124: a write answered ok sends `PTR_CONFIG` and the latched word big-endian, loads the
timer with `WAIT_TICKS(req_rate)` and goes to WAIT. A legal rate's delay is loaded unchanged. Of any other rate, which no
run latches, the timer keeps the low `W_TIMER` bits of the delay (LOG ENTRY 19), at rate 0 of a free value (LOG ENTRY
15). -/
def Obligations.WriteCfgOkStartsTheWait : Prop :=
  ∀ (s : State) (w r : Word16) (a : DevAddr), s.phase = .writeCfg → s.cfgWord = some w → s.devAddr = some a →
    s.reqRate = some r →
    exec (.writeCfg .ok) s =
      .next { s with
        trace := s.trace ++ [.write a [s.config.ptrConfig, w.extractLsb' 8 8, w.extractLsb' 0 8] .ok],
        timer := some (waitTicks s.config r % 2 ^ timerWidth s.config), phase := .wait } ∧
    (∀ v, r ∈ ratesIn s.config v → waitTicks s.config r % 2 ^ timerWidth s.config = waitTicks s.config r) ∧
    (r ≠ 0 → waitTicks s.config r =
      (s.config.tickHz + r.toNat - 1) / r.toNat + (s.config.tickHz + 9999) / 10000 + 1)

/-- 42_bus_sequencer.md R121, R130: a write answered fail(e) answers BusWriteError with the token, with no wait and the
timer not loaded. -/
def Obligations.WriteCfgFailAnswersBusWriteError : Prop :=
  ∀ (s : State) (w : Word16) (a : DevAddr) (e : Byte), s.phase = .writeCfg → s.cfgWord = some w →
    s.devAddr = some a →
    exec (.writeCfg (.fail e)) s =
      .next { s with
        trace := s.trace ++ [.write a [s.config.ptrConfig, w.extractLsb' 8 8, w.extractLsb' 0 8] (.fail e)],
        phase := .respond, rspStatus := some 6, rspInfo := some (BitVec.ofNat 16 e.toNat), rspValue := some 0 }

/-- 42_bus_sequencer.md R125: a tick in WAIT lowers a timer that is not 0 by one, leaves one that is 0 (`n - 1` on natural
numbers), and is traced; a tick in any other phase changes nothing; the event is taken in every phase. -/
def Obligations.TickCountsDownInWaitOnly : Prop :=
  (∀ (s : State) (n : Nat), s.phase = .wait → s.timer = some n →
    exec .waitTick s =
      .next { s with timer := some (n - 1), trace := s.trace ++ [.tick] }) ∧
  (∀ s : State, s.phase ≠ .wait → exec .waitTick s = .next s) ∧
  ∀ (s : State) (rest : List Event), s.inputs = .tick :: rest → step s = exec .waitTick { s with inputs := rest }

/-- 42_bus_sequencer.md R126: the exit is taken exactly when the timer is 0. -/
def Obligations.WaitExitNeedsTimerZero : Prop :=
  ∀ (s : State) (n : Nat), s.phase = .wait → s.timer = some n →
    (n = 0 → exec .waitExit s = .next { s with phase := .readConv }) ∧ (n ≠ 0 → exec .waitExit s = .next s)

/-- 42_bus_sequencer.md R127: a read answered ok(b0, b1) stores the big-endian sample and answers OK with CONVERT of the
bound variant, the active gain and the fresh bytes. -/
def Obligations.ReadConvOkAnswersTheConvertedSample : Prop :=
  ∀ (s : State) (v : Variant) (g : Gain) (a : DevAddr) (b0 b1 : Byte), s.phase = .readConv → s.variant = some v →
    s.activeGain = some g → s.devAddr = some a →
    exec (.readConv (.ok b0 b1)) s =
      .next { s with
        trace := s.trace ++ [.read a [s.config.ptrConversion] 2 (.ok b0 b1)],
        rawSample := some (BitVec.ofNat 16 (256 * b0.toNat + b1.toNat)), phase := .respond,
        rspStatus := some 0, rspInfo := some 0,
        rspValue := some (convert v g (BitVec.ofNat 16 (256 * b0.toNat + b1.toNat))) }

/-- 42_bus_sequencer.md R127: a read answered fail(e) answers BusReadError; the sample is not written. -/
def Obligations.ReadConvFailAnswersBusReadError : Prop :=
  ∀ (s : State) (a : DevAddr) (e : Byte), s.phase = .readConv → s.devAddr = some a →
    exec (.readConv (.fail e)) s =
      .next { s with
        trace := s.trace ++ [.read a [s.config.ptrConversion] 2 (.fail e)],
        phase := .respond, rspStatus := some 7, rspInfo := some (BitVec.ofNat 16 e.toNat), rspValue := some 0 }

/-- 44_orchestration.md R161: in RESPOND HOST receives the triple it can see, the block goes to IDLE, and the response
registers keep their values. -/
def Obligations.RespondDeliversTheTriple : Prop :=
  ∀ (s : State) (x : Response), s.phase = .respond → visibleResponse s = some x →
    exec .respond s = .next { s with phase := .idle, delivered := s.delivered ++ [x] }

/-- 00_scope.md R15, 42_bus_sequencer.md R133: a phase step outside its phase does not fire: nothing changes (the
model's reading, LOG ENTRY 2). -/
def Obligations.StepsOutsideTheirPhaseDoNothing : Prop :=
  (∀ (o : WriteOutcome) (s : State), s.phase ≠ .writeCfg → exec (.writeCfg o) s = .next s) ∧
  (∀ s : State, s.phase ≠ .wait → exec .waitExit s = .next s) ∧
  (∀ (o : ReadOutcome) (s : State), s.phase ≠ .readConv → exec (.readConv o) s = .next s) ∧
  ∀ s : State, s.phase ≠ .respond → exec .respond s = .next s

/-- 42_bus_sequencer.md R121, R125 to R127, 44_orchestration.md R161: the frames of the phase steps. -/
def Obligations.PhaseStepFrames : Prop :=
  (∀ (o : WriteOutcome) (s t : State), exec (.writeCfg o) s = .next t →
    t = { s with
      phase := t.phase, timer := t.timer, trace := t.trace,
      rspStatus := t.rspStatus, rspInfo := t.rspInfo, rspValue := t.rspValue }) ∧
  (∀ s t : State, exec .waitTick s = .next t → t = { s with timer := t.timer, trace := t.trace }) ∧
  (∀ s t : State, exec .waitExit s = .next t → t = { s with phase := t.phase }) ∧
  (∀ (o : ReadOutcome) (s t : State), exec (.readConv o) s = .next t →
    t = { s with
      phase := t.phase, rawSample := t.rawSample, trace := t.trace,
      rspStatus := t.rspStatus, rspInfo := t.rspInfo, rspValue := t.rspValue }) ∧
  ∀ s t : State, exec .respond s = .next t → t = { s with phase := t.phase, delivered := t.delivered }

/-- 20_memory.md R49, R50, 30_encoding.md R73: frame W3 is one write transaction at `dev_addr` of `PTR_CONFIG`, the
word's high byte and its low byte; it appends that event, answers its outcome, and changes no element of the block (the
row on its own: LOG ENTRY 8). -/
def Obligations.FrameW3IsOneWriteTransaction : Prop :=
  ∀ (word : Word16) (o : WriteOutcome) (a : DevAddr) (s : State), s.devAddr = some a →
    exec (.w3 word o) s =
      .next { s with
        trace := s.trace ++ [.write a [s.config.ptrConfig, BitVec.ofNat 8 (word.toNat / 256), BitVec.ofNat 8 word.toNat] o],
        result := some (.wrote o) }

/-- 20_memory.md R49, R51, 30_encoding.md R73: frame R1+2 is one writeThenRead transaction at `dev_addr` of the one byte
`PTR_CONVERSION` with two bytes read (the row on its own: LOG ENTRY 8). -/
def Obligations.FrameR1plus2IsOneReadTransaction : Prop :=
  ∀ (o : ReadOutcome) (a : DevAddr) (s : State), s.devAddr = some a →
    exec (.r1plus2 o) s =
      .next { s with trace := s.trace ++ [.read a [s.config.ptrConversion] 2 o], result := some (.got o) }

/-- 41_config_builder.md R114, 43_sample_converter.md R152: a function row changes nothing but the observer's `result`
(all rows of format FUNC, and CFG_WORD; `result` is the model's field, LOG ENTRY 6). -/
def Obligations.FunctionsArePure : Prop :=
  ∀ (i : Instr) (s t : State), isFunction i = true → exec i s = .next t → t = { s with result := t.result }

/-! ### The step and the machine as a whole -/

/-- The step runs the instruction the next event selects, with the event consumed; with no event, or with one that no
step takes, nothing else changes (the schedule `inputs` and the passing over are the model's, LOG ENTRIES 1, 2). -/
def Obligations.StepRunsTheDecodedInstruction : Prop :=
  (∀ (s : State) (e : Event) (rest : List Event) (i : Instr), s.inputs = e :: rest → fetch s e = .ok i →
    step s = exec i { s with inputs := rest }) ∧
  (∀ (s : State) (w : CmdWord) (rest : List Event) (i : Instr), s.inputs = .offer w :: rest →
    decode s.config (.cmd64 w) = .ok i → step s = exec i { s with inputs := rest }) ∧
  (∀ (s : State) (e : Event) (rest : List Event) (i : Instr), s.inputs = e :: rest →
    decode s.config (.phase3 (phaseCode s.phase) e) = .ok i → step s = exec i { s with inputs := rest }) ∧
  (∀ (s : State) (e : Event) (rest : List Event) (x : DecodeError), s.inputs = e :: rest → fetch s e = .error x →
    step s = .next { s with inputs := rest }) ∧
  ∀ s : State, s.inputs = [] → step s = .next s

/-- 60_exceptions.md R189, 30_encoding.md R78: no instruction and no step is refused, and a fault names an element that
holds no value. -/
def Obligations.NothingIsRefusedAndFaultsNameAbsentElements : Prop :=
  (∀ (i : Instr) (s : State) (x : Refusal), exec i s ≠ .refused x) ∧ (∀ (s : State) (x : Refusal), step s ≠ .refused x) ∧
  ∀ (i : Instr) (s : State) (e : Element), exec i s = .fault (.noValue e) →
    (e = .variant → s.variant = none) ∧ (e = .devAddr → s.devAddr = none) ∧ (e = .activeGain → s.activeGain = none) ∧
    (e = .reqRate → s.reqRate = none) ∧ (e = .cfgWord → s.cfgWord = none) ∧ (e = .timer → s.timer = none) ∧
    (e = .response → s.rspStatus = none ∨ s.rspInfo = none ∨ s.rspValue = none)

/-- 10_state.md R35, 60_exceptions.md R189, 93_implementation_defined.md U14: a rule that reads an element holding no
value is a model fault that names it: absent implies fault, for every reading instruction (the converse is
`NothingIsRefusedAndFaultsNameAbsentElements`). Which of several absent elements is named is the model's order (LOG ENTRY
28). -/
def Obligations.ReadingAnAbsentElementFaults : Prop :=
  (∀ (w r : Word16) (s : State), s.variant = none → exec (.lookupRate w r) s = .fault (.noValue .variant)) ∧
  (∀ (sel : Selector) (g r : Word16) (s : State), s.variant = none →
    exec (.build sel g r) s = .fault (.noValue .variant)) ∧
  (∀ (ch : Option Byte) (g : Option Word16) (s : State), s.variant = none →
    exec (.defaulted (.se ch g none)) s = .fault (.noValue .variant)) ∧
  (∀ (p : Option (Byte × Byte)) (g : Option Word16) (s : State), s.variant = none →
    exec (.defaulted (.diff p g none)) s = .fault (.noValue .variant)) ∧
  (∀ (w : CmdWord) (c : ReadCmd) (s : State), s.variant = none → s.phase = .idle → s.constructed = true →
    decodeCommand w = .read c → exec (.accept w) s = .fault (.noValue .variant)) ∧
  (∀ (o : WriteOutcome) (s : State), s.phase = .writeCfg → s.cfgWord = none →
    exec (.writeCfg o) s = .fault (.noValue .cfgWord)) ∧
  (∀ (o : WriteOutcome) (s : State), s.phase = .writeCfg → s.cfgWord.isSome = true → s.devAddr = none →
    exec (.writeCfg o) s = .fault (.noValue .devAddr)) ∧
  (∀ s : State, s.phase = .writeCfg → s.cfgWord.isSome = true → s.devAddr.isSome = true → s.reqRate = none →
    exec (.writeCfg .ok) s = .fault (.noValue .reqRate)) ∧
  (∀ s : State, s.phase = .wait → s.timer = none →
    exec .waitTick s = .fault (.noValue .timer) ∧ exec .waitExit s = .fault (.noValue .timer)) ∧
  (∀ (o : ReadOutcome) (s : State), s.phase = .readConv → s.devAddr = none →
    exec (.readConv o) s = .fault (.noValue .devAddr)) ∧
  (∀ (b0 b1 : Byte) (s : State), s.phase = .readConv → s.devAddr.isSome = true → s.variant = none →
    exec (.readConv (.ok b0 b1)) s = .fault (.noValue .variant)) ∧
  (∀ (b0 b1 : Byte) (s : State), s.phase = .readConv → s.devAddr.isSome = true → s.variant.isSome = true →
    s.activeGain = none → exec (.readConv (.ok b0 b1)) s = .fault (.noValue .activeGain)) ∧
  (∀ s : State, s.phase = .respond → (s.rspStatus = none ∨ s.rspInfo = none ∨ s.rspValue = none) →
    exec .respond s = .fault (.noValue .response)) ∧
  (∀ (word : Word16) (o : WriteOutcome) (s : State), s.devAddr = none →
    exec (.w3 word o) s = .fault (.noValue .devAddr)) ∧
  ∀ (o : ReadOutcome) (s : State), s.devAddr = none → exec (.r1plus2 o) s = .fault (.noValue .devAddr)

/-- 42_bus_sequencer.md R133: every change of `phase` is one of the table's, on the event and the condition the table
gives, what `BUILD` answers included. -/
def Obligations.PhaseChangesOnlyAsTheTableSays : Prop :=
  ∀ s t : State, step s = .next t → t.phase ≠ s.phase → ∃ e rest, s.inputs = e :: rest ∧ AllowedMove s t e

/-- 20_memory.md R46, R49 to R51, R59, 41_config_builder.md R113: a step adds at most one event to the bus trace, a
write of the latched word in WRITE_CFG, a tick in WAIT, a read in READ_CONV; in IDLE and RESPOND it adds none. -/
def Obligations.BusTrafficComesFromItsPhases : Prop :=
  ∀ s t : State, step s = .next t →
    t.trace = s.trace ∨
    (s.phase = .writeCfg ∧ ∃ a w o, s.devAddr = some a ∧ s.cfgWord = some w ∧
      t.trace = s.trace ++ [.write a [s.config.ptrConfig, w.extractLsb' 8 8, w.extractLsb' 0 8] o]) ∨
    (s.phase = .wait ∧ t.trace = s.trace ++ [.tick]) ∨
    (s.phase = .readConv ∧ ∃ a o, s.devAddr = some a ∧ t.trace = s.trace ++ [.read a [s.config.ptrConversion] 2 o])

/-- 10_state.md R26 to R28: once constructed, the block stays so with its variant and address until a RESET;
and 40_encoding_tables.md R90: no step, RESET included, changes the configuration record. -/
def Obligations.BindingIsKeptUntilReset : Prop :=
  (∀ s t : State, s.constructed = true → step s = .next t →
    (∃ rest, s.inputs = .reset :: rest) ∨
    (t.constructed = true ∧ t.variant = s.variant ∧ t.devAddr = s.devAddr)) ∧
  ∀ s t : State, step s = .next t → t.config = s.config

/-- 10_state.md R23, R24, R29, 41_config_builder.md R112: the three latches change only in a step that goes from IDLE to
WRITE_CFG, or by RESET; in particular no step of a command in progress changes the gain it will be scaled by. -/
def Obligations.LatchesChangeOnlyAtAcceptance : Prop :=
  ∀ s t : State, step s = .next t →
    (t.activeGain = s.activeGain ∧ t.reqRate = s.reqRate ∧ t.cfgWord = s.cfgWord) ∨
    (s.phase = .idle ∧ t.phase = .writeCfg) ∨ ∃ rest, s.inputs = .reset :: rest

/-- 10_state.md R31, 44_orchestration.md R161: the response registers change only in a step that enters RESPOND, or by
RESET; a response is delivered only by leaving RESPOND, and it is the one that was visible. -/
def Obligations.ResponsesAreStableAndDeliveredOnce : Prop :=
  ∀ s t : State, step s = .next t →
    ((t.rspStatus = s.rspStatus ∧ t.rspInfo = s.rspInfo ∧ t.rspValue = s.rspValue) ∨
      (s.phase ≠ .respond ∧ t.phase = .respond) ∨ ∃ rest, s.inputs = .reset :: rest) ∧
    (t.delivered = s.delivered ∨
      (s.phase = .respond ∧ t.phase = .idle ∧ ∃ x, visibleResponse s = some x ∧ t.delivered = s.delivered ++ [x]))

/-- 60_exceptions.md R179: error entry writes the response triple and `phase` and nothing else, with the codes of R176
in the order of R175. -/
def Obligations.ErrorEntryWritesOnlyTheResponse : Prop :=
  (∀ (e : ErrorKind) (info : Word16) (s : State),
    raiseError e info s =
      { s with phase := .respond, rspStatus := some (errorCode e), rspInfo := some info, rspValue := some 0 }) ∧
  [ErrorKind.invalidVariant, .invalidSampleRate, .invalidGain, .invalidChannel, .invalidChannelPair, .busWriteError,
    .busReadError].map errorCode = [1, 2, 3, 4, 5, 6, 7]

/-- 42_bus_sequencer.md R130, 44_orchestration.md R163: a failed bus transaction ends that command only. Once HOST has
taken the error, the block is idle with its driver as before, and takes any read command. -/
def Obligations.TransportErrorEndsOneCommandOnly : Prop :=
  ∀ (s : State) (w : Word16) (a : DevAddr) (e : Byte) (rest : List Event), s.constructed = true →
    s.devAddr = some a → s.cfgWord = some w →
    (s.phase = .writeCfg ∧ s.inputs = .busWrite (.fail e) :: .take :: rest ∨
      s.phase = .readConv ∧ s.inputs = .busRead (.fail e) :: .take :: rest) →
    ∃ t, core.run 2 s = .next t ∧ t.phase = .idle ∧ t.inputs = rest ∧ t.constructed = true ∧ t.variant = s.variant ∧
      t.devAddr = s.devAddr ∧ t.rawSample = s.rawSample ∧
      t.delivered = s.delivered ++ [⟨if s.phase = .writeCfg then 6 else 7, e.setWidth 16, 0⟩] ∧
      ∀ c, cmdReady (.read c) t = true

/-- 10_state.md R34: the invariant holds at reset, in every configuration that meets 40_encoding_tables.md R100 and in
the adopted one. -/
def Obligations.ResetStateMeetsTheInvariant : Prop :=
  (∀ cfg : Config, tablesValid cfg = true → BlockInv (State.resetOf cfg)) ∧ BlockInv State.reset

/-- 10_state.md R34, R35, 42_bus_sequencer.md R126, 60_exceptions.md R189: from every state that meets the invariant,
reached or not, the step answers a next state (no element without a value is ever read), and the next state meets the
invariant: the driver is bound, the latches are one legal request's, the conversion is read only after `WAIT_TICKS`
ticks since the ok write of its word, the timer keeps its width, and a response is well formed. -/
def Obligations.EveryStepKeepsTheInvariant : Prop :=
  ∀ s : State, BlockInv s → ∃ t, step s = .next t ∧ BlockInv t

/-- 42_bus_sequencer.md R134, 44_orchestration.md R158, R159 (the document's end-to-end property): in every
configuration and from every idle, constructed state, a legal read command, an ok write, at least `WAIT_TICKS` ticks,
the exit, an ok read and the take leave exactly `W, T^n, R` on the trace and deliver exactly one response, OK with the
bytes scaled by the low 13 bits of the command's own gain (LOG ENTRY 20). In a configuration that meets R100 these are
the whole gain (`ReadSeLatchesALegalRequest`, `ReadDiffLatchesALegalRequest`). -/
def Obligations.ReadCommandRunsEndToEnd : Prop :=
  ∀ (s : State) (cmd : CmdWord) (c : ReadCmd) (v : Variant) (a : DevAddr) (w : Word16) (n : Nat) (b0 b1 : Byte)
    (rest : List Event),
    s.phase = .idle → s.constructed = true → s.variant = some v → s.devAddr = some a → decodeCommand cmd = .read c →
    buildRequest s.config v (defaulted s.config v c) = .word w →
    waitTicks s.config (defaulted s.config v c).rate ≤ n →
    s.inputs =
      [.offer cmd, .busWrite .ok] ++ List.replicate n .tick ++ [.seq, .busRead (.ok b0 b1), .take] ++ rest →
    ∃ t, core.run (n + 5) s = .next t ∧ t.phase = .idle ∧ t.inputs = rest ∧ t.cfgWord = some w ∧
      t.trace = s.trace ++ [.write a [s.config.ptrConfig, w.extractLsb' 8 8, w.extractLsb' 0 8] .ok] ++ List.replicate n .tick ++
        [.read a [s.config.ptrConversion] 2 (.ok b0 b1)] ∧
      t.rawSample = some (joinBytes b0 b1) ∧
      t.delivered = s.delivered ++ [⟨0, 0, convert v ((defaulted s.config v c).gain.setWidth 13) (joinBytes b0 b1)⟩]

/-! ### The adopted instance -/

/-- 40_encoding_tables.md R91 to R99, 00_scope.md R8, R10: the adopted configuration record, its codes, rate lists and
pointers (LOG ENTRY 10), tick rate and margin (LOG ENTRY 11), no eighth STD rate (LOG ENTRY 12) and default operands (LOG
ENTRY 13); the machine after `State.reset` has it. -/
def Obligations.AdoptedInstanceIsTheListedOne : Prop :=
  (∀ v, ratesIn adopted v = ratesOf v) ∧
  (∀ v k r, (ratesOf v)[k]? = some r → (rateField adopted v).lookup r = some (rateCode k)) ∧
  adopted.gainField.map Prod.fst = gains ∧
  (∀ (k : Nat) (g : Word16), gains[k]? = some g → adopted.gainField.lookup g = some (gainCode k)) ∧
  (∀ c : Byte, adopted.seField.lookup c = if c.toNat < 4 then some (channelCode (4 + c.toNat)) else none) ∧
  adopted.diffField.map Prod.fst = pairs ∧
  (∀ (k : Nat) (q : Byte × Byte), pairs[k]? = some q → adopted.diffField.lookup q = some (channelCode k)) ∧
  adopted.defaultWord = 0x0103 ∧ adopted.startFlag = 0x8000 ∧ adopted.ptrConfig = 0x01 ∧ adopted.ptrConversion = 0x00 ∧
  adopted.tickHz = 1000000 ∧ epsTicks adopted = 100 ∧ adopted.stdRate8th = none ∧
  adopted.defaultChannel = 0 ∧ adopted.defaultPair = (0, 1) ∧ adopted.defaultGain = 6144 ∧
  defaultRate adopted .hires = 128 ∧ defaultRate adopted .std = 1600 ∧ State.reset = State.resetOf adopted
end

