-- ==== Sys2Proof/Laws/State.lean ====
section
/-! SUPPORT. One lemma per field of `State` for each named update, true by `rfl`, so that no proof unfolds an update, and
the reset value of each field. -/

namespace Sys2Proof.Machine

variable (s : State)

@[simp] theorem enterRespond_config (st : BitVec 4) (i : Word16) (v : BitVec 32) : (enterRespond st i v s).config = s.config := rfl
@[simp] theorem enterRespond_phase (st : BitVec 4) (i : Word16) (v : BitVec 32) : (enterRespond st i v s).phase = .respond := rfl
@[simp] theorem enterRespond_constructed (st : BitVec 4) (i : Word16) (v : BitVec 32) : (enterRespond st i v s).constructed = s.constructed := rfl
@[simp] theorem enterRespond_variant (st : BitVec 4) (i : Word16) (v : BitVec 32) : (enterRespond st i v s).variant = s.variant := rfl
@[simp] theorem enterRespond_devAddr (st : BitVec 4) (i : Word16) (v : BitVec 32) : (enterRespond st i v s).devAddr = s.devAddr := rfl
@[simp] theorem enterRespond_activeGain (st : BitVec 4) (i : Word16) (v : BitVec 32) : (enterRespond st i v s).activeGain = s.activeGain := rfl
@[simp] theorem enterRespond_reqRate (st : BitVec 4) (i : Word16) (v : BitVec 32) : (enterRespond st i v s).reqRate = s.reqRate := rfl
@[simp] theorem enterRespond_cfgWord (st : BitVec 4) (i : Word16) (v : BitVec 32) : (enterRespond st i v s).cfgWord = s.cfgWord := rfl
@[simp] theorem enterRespond_timer (st : BitVec 4) (i : Word16) (v : BitVec 32) : (enterRespond st i v s).timer = s.timer := rfl
@[simp] theorem enterRespond_rawSample (st : BitVec 4) (i : Word16) (v : BitVec 32) : (enterRespond st i v s).rawSample = s.rawSample := rfl
@[simp] theorem enterRespond_rspStatus (st : BitVec 4) (i : Word16) (v : BitVec 32) : (enterRespond st i v s).rspStatus = some st := rfl
@[simp] theorem enterRespond_rspInfo (st : BitVec 4) (i : Word16) (v : BitVec 32) : (enterRespond st i v s).rspInfo = some i := rfl
@[simp] theorem enterRespond_rspValue (st : BitVec 4) (i : Word16) (v : BitVec 32) : (enterRespond st i v s).rspValue = some v := rfl
@[simp] theorem enterRespond_trace (st : BitVec 4) (i : Word16) (v : BitVec 32) : (enterRespond st i v s).trace = s.trace := rfl
@[simp] theorem enterRespond_inputs (st : BitVec 4) (i : Word16) (v : BitVec 32) : (enterRespond st i v s).inputs = s.inputs := rfl
@[simp] theorem enterRespond_delivered (st : BitVec 4) (i : Word16) (v : BitVec 32) : (enterRespond st i v s).delivered = s.delivered := rfl
@[simp] theorem enterRespond_result (st : BitVec 4) (i : Word16) (v : BitVec 32) : (enterRespond st i v s).result = s.result := rfl

@[simp] theorem raiseError_config (e : ErrorKind) (i : Word16) : (raiseError e i s).config = s.config := rfl
@[simp] theorem raiseError_phase (e : ErrorKind) (i : Word16) : (raiseError e i s).phase = .respond := rfl
@[simp] theorem raiseError_constructed (e : ErrorKind) (i : Word16) : (raiseError e i s).constructed = s.constructed := rfl
@[simp] theorem raiseError_variant (e : ErrorKind) (i : Word16) : (raiseError e i s).variant = s.variant := rfl
@[simp] theorem raiseError_devAddr (e : ErrorKind) (i : Word16) : (raiseError e i s).devAddr = s.devAddr := rfl
@[simp] theorem raiseError_activeGain (e : ErrorKind) (i : Word16) : (raiseError e i s).activeGain = s.activeGain := rfl
@[simp] theorem raiseError_reqRate (e : ErrorKind) (i : Word16) : (raiseError e i s).reqRate = s.reqRate := rfl
@[simp] theorem raiseError_cfgWord (e : ErrorKind) (i : Word16) : (raiseError e i s).cfgWord = s.cfgWord := rfl
@[simp] theorem raiseError_timer (e : ErrorKind) (i : Word16) : (raiseError e i s).timer = s.timer := rfl
@[simp] theorem raiseError_rawSample (e : ErrorKind) (i : Word16) : (raiseError e i s).rawSample = s.rawSample := rfl
@[simp] theorem raiseError_rspStatus (e : ErrorKind) (i : Word16) : (raiseError e i s).rspStatus = some (errorCode e) := rfl
@[simp] theorem raiseError_rspInfo (e : ErrorKind) (i : Word16) : (raiseError e i s).rspInfo = some i := rfl
@[simp] theorem raiseError_rspValue (e : ErrorKind) (i : Word16) : (raiseError e i s).rspValue = some 0 := rfl
@[simp] theorem raiseError_trace (e : ErrorKind) (i : Word16) : (raiseError e i s).trace = s.trace := rfl
@[simp] theorem raiseError_inputs (e : ErrorKind) (i : Word16) : (raiseError e i s).inputs = s.inputs := rfl
@[simp] theorem raiseError_delivered (e : ErrorKind) (i : Word16) : (raiseError e i s).delivered = s.delivered := rfl
@[simp] theorem raiseError_result (e : ErrorKind) (i : Word16) : (raiseError e i s).result = s.result := rfl

@[simp] theorem observe_config (e : BusEvent) : (observe e s).config = s.config := rfl
@[simp] theorem observe_phase (e : BusEvent) : (observe e s).phase = s.phase := rfl
@[simp] theorem observe_constructed (e : BusEvent) : (observe e s).constructed = s.constructed := rfl
@[simp] theorem observe_variant (e : BusEvent) : (observe e s).variant = s.variant := rfl
@[simp] theorem observe_devAddr (e : BusEvent) : (observe e s).devAddr = s.devAddr := rfl
@[simp] theorem observe_activeGain (e : BusEvent) : (observe e s).activeGain = s.activeGain := rfl
@[simp] theorem observe_reqRate (e : BusEvent) : (observe e s).reqRate = s.reqRate := rfl
@[simp] theorem observe_cfgWord (e : BusEvent) : (observe e s).cfgWord = s.cfgWord := rfl
@[simp] theorem observe_timer (e : BusEvent) : (observe e s).timer = s.timer := rfl
@[simp] theorem observe_rawSample (e : BusEvent) : (observe e s).rawSample = s.rawSample := rfl
@[simp] theorem observe_rspStatus (e : BusEvent) : (observe e s).rspStatus = s.rspStatus := rfl
@[simp] theorem observe_rspInfo (e : BusEvent) : (observe e s).rspInfo = s.rspInfo := rfl
@[simp] theorem observe_rspValue (e : BusEvent) : (observe e s).rspValue = s.rspValue := rfl
@[simp] theorem observe_trace (e : BusEvent) : (observe e s).trace = s.trace ++ [e] := rfl
@[simp] theorem observe_inputs (e : BusEvent) : (observe e s).inputs = s.inputs := rfl
@[simp] theorem observe_delivered (e : BusEvent) : (observe e s).delivered = s.delivered := rfl
@[simp] theorem observe_result (e : BusEvent) : (observe e s).result = s.result := rfl

@[simp] theorem memWrite_config (p : Byte) (a : DevAddr) (w : Word16) (o : WriteOutcome) : (memWrite p a w o s).config = s.config := rfl
@[simp] theorem memWrite_phase (p : Byte) (a : DevAddr) (w : Word16) (o : WriteOutcome) : (memWrite p a w o s).phase = s.phase := rfl
@[simp] theorem memWrite_constructed (p : Byte) (a : DevAddr) (w : Word16) (o : WriteOutcome) : (memWrite p a w o s).constructed = s.constructed := rfl
@[simp] theorem memWrite_variant (p : Byte) (a : DevAddr) (w : Word16) (o : WriteOutcome) : (memWrite p a w o s).variant = s.variant := rfl
@[simp] theorem memWrite_devAddr (p : Byte) (a : DevAddr) (w : Word16) (o : WriteOutcome) : (memWrite p a w o s).devAddr = s.devAddr := rfl
@[simp] theorem memWrite_activeGain (p : Byte) (a : DevAddr) (w : Word16) (o : WriteOutcome) : (memWrite p a w o s).activeGain = s.activeGain := rfl
@[simp] theorem memWrite_reqRate (p : Byte) (a : DevAddr) (w : Word16) (o : WriteOutcome) : (memWrite p a w o s).reqRate = s.reqRate := rfl
@[simp] theorem memWrite_cfgWord (p : Byte) (a : DevAddr) (w : Word16) (o : WriteOutcome) : (memWrite p a w o s).cfgWord = s.cfgWord := rfl
@[simp] theorem memWrite_timer (p : Byte) (a : DevAddr) (w : Word16) (o : WriteOutcome) : (memWrite p a w o s).timer = s.timer := rfl
@[simp] theorem memWrite_rawSample (p : Byte) (a : DevAddr) (w : Word16) (o : WriteOutcome) : (memWrite p a w o s).rawSample = s.rawSample := rfl
@[simp] theorem memWrite_rspStatus (p : Byte) (a : DevAddr) (w : Word16) (o : WriteOutcome) : (memWrite p a w o s).rspStatus = s.rspStatus := rfl
@[simp] theorem memWrite_rspInfo (p : Byte) (a : DevAddr) (w : Word16) (o : WriteOutcome) : (memWrite p a w o s).rspInfo = s.rspInfo := rfl
@[simp] theorem memWrite_rspValue (p : Byte) (a : DevAddr) (w : Word16) (o : WriteOutcome) : (memWrite p a w o s).rspValue = s.rspValue := rfl
@[simp] theorem memWrite_trace (p : Byte) (a : DevAddr) (w : Word16) (o : WriteOutcome) : (memWrite p a w o s).trace = s.trace ++ [.write a [p, hiByte w, loByte w] o] := rfl
@[simp] theorem memWrite_inputs (p : Byte) (a : DevAddr) (w : Word16) (o : WriteOutcome) : (memWrite p a w o s).inputs = s.inputs := rfl
@[simp] theorem memWrite_delivered (p : Byte) (a : DevAddr) (w : Word16) (o : WriteOutcome) : (memWrite p a w o s).delivered = s.delivered := rfl
@[simp] theorem memWrite_result (p : Byte) (a : DevAddr) (w : Word16) (o : WriteOutcome) : (memWrite p a w o s).result = s.result := rfl

@[simp] theorem memRead_config (p : Byte) (a : DevAddr) (o : ReadOutcome) : (memRead p a o s).config = s.config := rfl
@[simp] theorem memRead_phase (p : Byte) (a : DevAddr) (o : ReadOutcome) : (memRead p a o s).phase = s.phase := rfl
@[simp] theorem memRead_constructed (p : Byte) (a : DevAddr) (o : ReadOutcome) : (memRead p a o s).constructed = s.constructed := rfl
@[simp] theorem memRead_variant (p : Byte) (a : DevAddr) (o : ReadOutcome) : (memRead p a o s).variant = s.variant := rfl
@[simp] theorem memRead_devAddr (p : Byte) (a : DevAddr) (o : ReadOutcome) : (memRead p a o s).devAddr = s.devAddr := rfl
@[simp] theorem memRead_activeGain (p : Byte) (a : DevAddr) (o : ReadOutcome) : (memRead p a o s).activeGain = s.activeGain := rfl
@[simp] theorem memRead_reqRate (p : Byte) (a : DevAddr) (o : ReadOutcome) : (memRead p a o s).reqRate = s.reqRate := rfl
@[simp] theorem memRead_cfgWord (p : Byte) (a : DevAddr) (o : ReadOutcome) : (memRead p a o s).cfgWord = s.cfgWord := rfl
@[simp] theorem memRead_timer (p : Byte) (a : DevAddr) (o : ReadOutcome) : (memRead p a o s).timer = s.timer := rfl
@[simp] theorem memRead_rawSample (p : Byte) (a : DevAddr) (o : ReadOutcome) : (memRead p a o s).rawSample = s.rawSample := rfl
@[simp] theorem memRead_rspStatus (p : Byte) (a : DevAddr) (o : ReadOutcome) : (memRead p a o s).rspStatus = s.rspStatus := rfl
@[simp] theorem memRead_rspInfo (p : Byte) (a : DevAddr) (o : ReadOutcome) : (memRead p a o s).rspInfo = s.rspInfo := rfl
@[simp] theorem memRead_rspValue (p : Byte) (a : DevAddr) (o : ReadOutcome) : (memRead p a o s).rspValue = s.rspValue := rfl
@[simp] theorem memRead_trace (p : Byte) (a : DevAddr) (o : ReadOutcome) : (memRead p a o s).trace = s.trace ++ [.read a [p] 2 o] := rfl
@[simp] theorem memRead_inputs (p : Byte) (a : DevAddr) (o : ReadOutcome) : (memRead p a o s).inputs = s.inputs := rfl
@[simp] theorem memRead_delivered (p : Byte) (a : DevAddr) (o : ReadOutcome) : (memRead p a o s).delivered = s.delivered := rfl
@[simp] theorem memRead_result (p : Byte) (a : DevAddr) (o : ReadOutcome) : (memRead p a o s).result = s.result := rfl

@[simp] theorem answer_config (r : Answer) : (answer r s).config = s.config := rfl
@[simp] theorem answer_phase (r : Answer) : (answer r s).phase = s.phase := rfl
@[simp] theorem answer_constructed (r : Answer) : (answer r s).constructed = s.constructed := rfl
@[simp] theorem answer_variant (r : Answer) : (answer r s).variant = s.variant := rfl
@[simp] theorem answer_devAddr (r : Answer) : (answer r s).devAddr = s.devAddr := rfl
@[simp] theorem answer_activeGain (r : Answer) : (answer r s).activeGain = s.activeGain := rfl
@[simp] theorem answer_reqRate (r : Answer) : (answer r s).reqRate = s.reqRate := rfl
@[simp] theorem answer_cfgWord (r : Answer) : (answer r s).cfgWord = s.cfgWord := rfl
@[simp] theorem answer_timer (r : Answer) : (answer r s).timer = s.timer := rfl
@[simp] theorem answer_rawSample (r : Answer) : (answer r s).rawSample = s.rawSample := rfl
@[simp] theorem answer_rspStatus (r : Answer) : (answer r s).rspStatus = s.rspStatus := rfl
@[simp] theorem answer_rspInfo (r : Answer) : (answer r s).rspInfo = s.rspInfo := rfl
@[simp] theorem answer_rspValue (r : Answer) : (answer r s).rspValue = s.rspValue := rfl
@[simp] theorem answer_trace (r : Answer) : (answer r s).trace = s.trace := rfl
@[simp] theorem answer_inputs (r : Answer) : (answer r s).inputs = s.inputs := rfl
@[simp] theorem answer_delivered (r : Answer) : (answer r s).delivered = s.delivered := rfl
@[simp] theorem answer_result (r : Answer) : (answer r s).result = some r := rfl

@[simp] theorem bindDriver_config (v : Variant) (a : DevAddr) : (bindDriver v a s).config = s.config := rfl
@[simp] theorem bindDriver_phase (v : Variant) (a : DevAddr) : (bindDriver v a s).phase = s.phase := rfl
@[simp] theorem bindDriver_constructed (v : Variant) (a : DevAddr) : (bindDriver v a s).constructed = true := rfl
@[simp] theorem bindDriver_variant (v : Variant) (a : DevAddr) : (bindDriver v a s).variant = some v := rfl
@[simp] theorem bindDriver_devAddr (v : Variant) (a : DevAddr) : (bindDriver v a s).devAddr = some a := rfl
@[simp] theorem bindDriver_activeGain (v : Variant) (a : DevAddr) : (bindDriver v a s).activeGain = s.activeGain := rfl
@[simp] theorem bindDriver_reqRate (v : Variant) (a : DevAddr) : (bindDriver v a s).reqRate = s.reqRate := rfl
@[simp] theorem bindDriver_cfgWord (v : Variant) (a : DevAddr) : (bindDriver v a s).cfgWord = s.cfgWord := rfl
@[simp] theorem bindDriver_timer (v : Variant) (a : DevAddr) : (bindDriver v a s).timer = s.timer := rfl
@[simp] theorem bindDriver_rawSample (v : Variant) (a : DevAddr) : (bindDriver v a s).rawSample = s.rawSample := rfl
@[simp] theorem bindDriver_rspStatus (v : Variant) (a : DevAddr) : (bindDriver v a s).rspStatus = s.rspStatus := rfl
@[simp] theorem bindDriver_rspInfo (v : Variant) (a : DevAddr) : (bindDriver v a s).rspInfo = s.rspInfo := rfl
@[simp] theorem bindDriver_rspValue (v : Variant) (a : DevAddr) : (bindDriver v a s).rspValue = s.rspValue := rfl
@[simp] theorem bindDriver_trace (v : Variant) (a : DevAddr) : (bindDriver v a s).trace = s.trace := rfl
@[simp] theorem bindDriver_inputs (v : Variant) (a : DevAddr) : (bindDriver v a s).inputs = s.inputs := rfl
@[simp] theorem bindDriver_delivered (v : Variant) (a : DevAddr) : (bindDriver v a s).delivered = s.delivered := rfl
@[simp] theorem bindDriver_result (v : Variant) (a : DevAddr) : (bindDriver v a s).result = s.result := rfl

@[simp] theorem latchRequest_config (g r w : Word16) : (latchRequest g r w s).config = s.config := rfl
@[simp] theorem latchRequest_phase (g r w : Word16) : (latchRequest g r w s).phase = .writeCfg := rfl
@[simp] theorem latchRequest_constructed (g r w : Word16) : (latchRequest g r w s).constructed = s.constructed := rfl
@[simp] theorem latchRequest_variant (g r w : Word16) : (latchRequest g r w s).variant = s.variant := rfl
@[simp] theorem latchRequest_devAddr (g r w : Word16) : (latchRequest g r w s).devAddr = s.devAddr := rfl
@[simp] theorem latchRequest_activeGain (g r w : Word16) : (latchRequest g r w s).activeGain = some (g.setWidth 13) := rfl
@[simp] theorem latchRequest_reqRate (g r w : Word16) : (latchRequest g r w s).reqRate = some r := rfl
@[simp] theorem latchRequest_cfgWord (g r w : Word16) : (latchRequest g r w s).cfgWord = some w := rfl
@[simp] theorem latchRequest_timer (g r w : Word16) : (latchRequest g r w s).timer = s.timer := rfl
@[simp] theorem latchRequest_rawSample (g r w : Word16) : (latchRequest g r w s).rawSample = s.rawSample := rfl
@[simp] theorem latchRequest_rspStatus (g r w : Word16) : (latchRequest g r w s).rspStatus = s.rspStatus := rfl
@[simp] theorem latchRequest_rspInfo (g r w : Word16) : (latchRequest g r w s).rspInfo = s.rspInfo := rfl
@[simp] theorem latchRequest_rspValue (g r w : Word16) : (latchRequest g r w s).rspValue = s.rspValue := rfl
@[simp] theorem latchRequest_trace (g r w : Word16) : (latchRequest g r w s).trace = s.trace := rfl
@[simp] theorem latchRequest_inputs (g r w : Word16) : (latchRequest g r w s).inputs = s.inputs := rfl
@[simp] theorem latchRequest_delivered (g r w : Word16) : (latchRequest g r w s).delivered = s.delivered := rfl
@[simp] theorem latchRequest_result (g r w : Word16) : (latchRequest g r w s).result = s.result := rfl

@[simp] theorem startWait_config (r : Word16) : (startWait r s).config = s.config := rfl
@[simp] theorem startWait_phase (r : Word16) : (startWait r s).phase = .wait := rfl
@[simp] theorem startWait_constructed (r : Word16) : (startWait r s).constructed = s.constructed := rfl
@[simp] theorem startWait_variant (r : Word16) : (startWait r s).variant = s.variant := rfl
@[simp] theorem startWait_devAddr (r : Word16) : (startWait r s).devAddr = s.devAddr := rfl
@[simp] theorem startWait_activeGain (r : Word16) : (startWait r s).activeGain = s.activeGain := rfl
@[simp] theorem startWait_reqRate (r : Word16) : (startWait r s).reqRate = s.reqRate := rfl
@[simp] theorem startWait_cfgWord (r : Word16) : (startWait r s).cfgWord = s.cfgWord := rfl
@[simp] theorem startWait_timer (r : Word16) : (startWait r s).timer = some (waitTicks s.config r % 2 ^ timerWidth s.config) := rfl
@[simp] theorem startWait_rawSample (r : Word16) : (startWait r s).rawSample = s.rawSample := rfl
@[simp] theorem startWait_rspStatus (r : Word16) : (startWait r s).rspStatus = s.rspStatus := rfl
@[simp] theorem startWait_rspInfo (r : Word16) : (startWait r s).rspInfo = s.rspInfo := rfl
@[simp] theorem startWait_rspValue (r : Word16) : (startWait r s).rspValue = s.rspValue := rfl
@[simp] theorem startWait_trace (r : Word16) : (startWait r s).trace = s.trace := rfl
@[simp] theorem startWait_inputs (r : Word16) : (startWait r s).inputs = s.inputs := rfl
@[simp] theorem startWait_delivered (r : Word16) : (startWait r s).delivered = s.delivered := rfl
@[simp] theorem startWait_result (r : Word16) : (startWait r s).result = s.result := rfl

@[simp] theorem pushEvent_config (e : Event) : (pushEvent e s).config = s.config := rfl
@[simp] theorem pushEvent_phase (e : Event) : (pushEvent e s).phase = s.phase := rfl
@[simp] theorem pushEvent_constructed (e : Event) : (pushEvent e s).constructed = s.constructed := rfl
@[simp] theorem pushEvent_variant (e : Event) : (pushEvent e s).variant = s.variant := rfl
@[simp] theorem pushEvent_devAddr (e : Event) : (pushEvent e s).devAddr = s.devAddr := rfl
@[simp] theorem pushEvent_activeGain (e : Event) : (pushEvent e s).activeGain = s.activeGain := rfl
@[simp] theorem pushEvent_reqRate (e : Event) : (pushEvent e s).reqRate = s.reqRate := rfl
@[simp] theorem pushEvent_cfgWord (e : Event) : (pushEvent e s).cfgWord = s.cfgWord := rfl
@[simp] theorem pushEvent_timer (e : Event) : (pushEvent e s).timer = s.timer := rfl
@[simp] theorem pushEvent_rawSample (e : Event) : (pushEvent e s).rawSample = s.rawSample := rfl
@[simp] theorem pushEvent_rspStatus (e : Event) : (pushEvent e s).rspStatus = s.rspStatus := rfl
@[simp] theorem pushEvent_rspInfo (e : Event) : (pushEvent e s).rspInfo = s.rspInfo := rfl
@[simp] theorem pushEvent_rspValue (e : Event) : (pushEvent e s).rspValue = s.rspValue := rfl
@[simp] theorem pushEvent_trace (e : Event) : (pushEvent e s).trace = s.trace := rfl
@[simp] theorem pushEvent_inputs (e : Event) : (pushEvent e s).inputs = e :: s.inputs := rfl
@[simp] theorem pushEvent_delivered (e : Event) : (pushEvent e s).delivered = s.delivered := rfl
@[simp] theorem pushEvent_result (e : Event) : (pushEvent e s).result = s.result := rfl

@[simp] theorem resetOf_config (cfg : Config) : (State.resetOf cfg).config = cfg := rfl
@[simp] theorem resetOf_phase (cfg : Config) : (State.resetOf cfg).phase = .idle := rfl
@[simp] theorem resetOf_constructed (cfg : Config) : (State.resetOf cfg).constructed = false := rfl
@[simp] theorem resetOf_variant (cfg : Config) : (State.resetOf cfg).variant = none := rfl
@[simp] theorem resetOf_devAddr (cfg : Config) : (State.resetOf cfg).devAddr = none := rfl
@[simp] theorem resetOf_activeGain (cfg : Config) : (State.resetOf cfg).activeGain = none := rfl
@[simp] theorem resetOf_reqRate (cfg : Config) : (State.resetOf cfg).reqRate = none := rfl
@[simp] theorem resetOf_cfgWord (cfg : Config) : (State.resetOf cfg).cfgWord = none := rfl
@[simp] theorem resetOf_timer (cfg : Config) : (State.resetOf cfg).timer = none := rfl
@[simp] theorem resetOf_rawSample (cfg : Config) : (State.resetOf cfg).rawSample = none := rfl
@[simp] theorem resetOf_rspStatus (cfg : Config) : (State.resetOf cfg).rspStatus = none := rfl
@[simp] theorem resetOf_rspInfo (cfg : Config) : (State.resetOf cfg).rspInfo = none := rfl
@[simp] theorem resetOf_rspValue (cfg : Config) : (State.resetOf cfg).rspValue = none := rfl
@[simp] theorem resetOf_trace (cfg : Config) : (State.resetOf cfg).trace = [] := rfl
@[simp] theorem resetOf_inputs (cfg : Config) : (State.resetOf cfg).inputs = [] := rfl
@[simp] theorem resetOf_delivered (cfg : Config) : (State.resetOf cfg).delivered = [] := rfl
@[simp] theorem resetOf_result (cfg : Config) : (State.resetOf cfg).result = none := rfl

end Sys2Proof.Machine
end

