-- ==== Sys2Proof/Laws/Ops.lean ====
section
/-! SUPPORT. What each shared operation can do, said once. -/

namespace Sys2Proof.Machine

/-- A read of an element that holds a value. -/
@[simp] theorem need_some {α : Type} (e : Element) (a : α) (use : α → StepResult) : need e (some a) use = use a := rfl

/-- A read of an element that holds none. -/
@[simp] theorem need_none {α : Type} (e : Element) (use : α → StepResult) :
    need e none use = .fault (.noValue e) := rfl

/-- A read that answers a next state found a value. -/
theorem need_next {α : Type} {e : Element} {x : Option α} {use : α → StepResult} {t : State}
    (h : need e x use = .next t) : ∃ a, x = some a ∧ use a = .next t := by
  cases x with
  | none => cases h
  | some a => exact ⟨a, rfl, h⟩

/-- A read that faults either found no value, and names the element, or was used by what faults. -/
theorem need_fault {α : Type} {e : Element} {x : Option α} {use : α → StepResult} {y : Fault}
    (h : need e x use = .fault y) : (x = none ∧ y = .noValue e) ∨ ∃ a, x = some a ∧ use a = .fault y := by
  cases x with
  | none => cases h; exact .inl ⟨rfl, rfl⟩
  | some a => exact .inr ⟨a, rfl, h⟩

/-- A read never refuses unless what uses it does. -/
theorem need_refused {α : Type} {e : Element} {x : Option α} {use : α → StepResult} {y : Refusal}
    (h : need e x use = .refused y) : ∃ a, x = some a ∧ use a = .refused y := by
  cases x with
  | none => cases h
  | some a => exact ⟨a, rfl, h⟩

/-- An accepted `CONSTRUCT` either binds a variant and the address and answers OK, or raises InvalidVariant. -/
theorem performConstruct_cases (sel : Byte) (a : DevAddr) (s : State) :
    (sel = 0x00#8 ∧ performConstruct sel a s = enterRespond 0 0 0 (bindDriver .std a s)) ∨
    (sel = 0x01#8 ∧ performConstruct sel a s = enterRespond 0 0 0 (bindDriver .hires a s)) ∨
    (sel ≠ 0x00#8 ∧ sel ≠ 0x01#8 ∧ performConstruct sel a s = raiseError .invalidVariant (sel.setWidth 16) s) := by
  unfold performConstruct
  split
  · exact .inl ⟨‹_›, rfl⟩
  · split
    · exact .inr (.inl ⟨‹_›, rfl⟩)
    · exact .inr (.inr ⟨‹_›, ‹_›, rfl⟩)

/-- An accepted read command either latches its request and word, or raises the error of `BUILD`. -/
theorem performRead_cases (v : Variant) (c : ReadCmd) (s : State) :
    (∃ w, buildRequest s.config v (defaulted s.config v c) = .word w ∧
      performRead v c s = latchRequest (defaulted s.config v c).gain (defaulted s.config v c).rate w s) ∨
    (∃ e info, buildRequest s.config v (defaulted s.config v c) = .raised e info ∧
      performRead v c s = raiseError e info s) := by
  unfold performRead
  split
  · exact .inl ⟨_, ‹_›, rfl⟩
  · exact .inr ⟨_, _, ‹_›, rfl⟩

/-- When a command is ready: in IDLE, a construction before one succeeded, a read after. -/
theorem cmdReady_iff (c : Command) (s : State) :
    cmdReady c s = true ↔ s.phase = .idle ∧
      match c with
      | .nop => False
      | .construct _ _ => s.constructed = false
      | .read _ => s.constructed = true := by
  cases c <;> simp [cmdReady]

/-- What an offer that answers a next state did: nothing, a construction, or a read command. -/
theorem offerCommand_cases {c : Command} {s t : State} (h : offerCommand c s = .next t) :
    t = s ∨
    (s.phase = .idle ∧ s.constructed = false ∧ ∃ sel a, c = .construct sel a ∧ t = performConstruct sel a s) ∨
    (s.phase = .idle ∧ s.constructed = true ∧ ∃ r v, c = .read r ∧ s.variant = some v ∧ t = performRead v r s) := by
  unfold offerCommand at h
  split at h
  case isFalse => cases h; exact .inl rfl
  case isTrue hr =>
    rw [cmdReady_iff] at hr
    cases c with
    | nop => exact hr.2.elim
    | construct sel a => cases h; exact .inr (.inl ⟨hr.1, hr.2, sel, a, rfl, rfl⟩)
    | read r =>
      obtain ⟨v, hv, ht⟩ := need_next h
      cases ht
      exact .inr (.inr ⟨hr.1, hr.2, r, v, rfl, hv, rfl⟩)

/-- The return delivers the triple and goes to IDLE (60_exceptions.md R181). -/
theorem returnToIdle_cases {s t : State} (h : returnToIdle s = .next t) :
    ∃ st i v, s.rspStatus = some st ∧ s.rspInfo = some i ∧ s.rspValue = some v ∧
      t = { s with phase := .idle, delivered := s.delivered ++ [⟨st, i, v⟩] } := by
  obtain ⟨st, hst, h⟩ := need_next h
  obtain ⟨i, hi, h⟩ := need_next h
  obtain ⟨v, hv, h⟩ := need_next h
  cases h
  exact ⟨st, i, v, hst, hi, hv, rfl⟩

/-- A built word is the OR of its parts, each from its own table (41_config_builder.md R110). -/
theorem build_word_iff (cfg : Config) (v : Variant) (sel : Selector) (g r w : Word16) :
    build cfg v sel g r = .word w ↔
      ∃ fr fg fc, (rateField cfg v).lookup r = some fr ∧ cfg.gainField.lookup g = some fg ∧
        resolve cfg sel = .word fc ∧ w = cfg.defaultWord ||| fr ||| fg ||| fc ||| cfg.startFlag := by
  unfold build lookupRate lookupGain
  cases (rateField cfg v).lookup r with
  | none => simp
  | some fr =>
    cases cfg.gainField.lookup g with
    | none => simp
    | some fg =>
      cases resolve cfg sel with
      | raised e i => simp
      | word fc => simp [eq_comm]

/-- A key is listed exactly when it has a field. -/
theorem lookup_isSome_iff {α : Type} [BEq α] [LawfulBEq α] (t : List (α × Word16)) (k : α) :
    (t.lookup k).isSome = true ↔ k ∈ t.map Prod.fst := by
  induction t with
  | nil => simp
  | cons p t ih =>
    obtain ⟨a, f⟩ := p
    by_cases h : k = a
    · simp [h]
    · have hb : (k == a) = false := by simpa using h
      rw [List.lookup_cons, hb, List.map_cons, List.mem_cons]
      exact ih.trans (by simp [h])

/-- A key that is not listed has no field. -/
theorem lookup_eq_none_iff {α : Type} [BEq α] [LawfulBEq α] (t : List (α × Word16)) (k : α) :
    t.lookup k = none ↔ k ∉ t.map Prod.fst := by
  rw [← lookup_isSome_iff]
  cases t.lookup k <;> simp

/-- `WAIT_TICKS` at a positive rate. -/
theorem waitTicks_of_ne_zero (cfg : Config) (r : Word16) (h : r ≠ 0) :
    waitTicks cfg r = (cfg.tickHz + r.toNat - 1) / r.toNat + (cfg.tickHz + 9999) / 10000 + 1 := by
  simp only [waitTicks, samplePeriod, if_neg h]
  rfl

/-- A legal rate's delay is at most the longest. -/
theorem waitTicks_le_longestWait (cfg : Config) (v : Variant) (r : Word16) (h : r ∈ ratesIn cfg v) :
    waitTicks cfg r ≤ longestWait cfg := by
  have hm : r ∈ ratesIn cfg .hires ++ ratesIn cfg .std := by
    cases v
    · exact List.mem_append_right _ h
    · exact List.mem_append_left _ h
  unfold longestWait
  generalize ratesIn cfg .hires ++ ratesIn cfg .std = l at hm
  induction l with
  | nil => cases hm
  | cons a l ih =>
    rcases List.mem_cons.1 hm with rfl | hl
    · exact le_max_left _ _
    · exact (ih hl).trans (le_max_right _ _)

/-- The timer holds a legal rate's delay. -/
theorem waitTicks_lt (cfg : Config) (v : Variant) (r : Word16) (h : r ∈ ratesIn cfg v) :
    waitTicks cfg r < 2 ^ timerWidth cfg :=
  (waitTicks_le_longestWait cfg v r h).trans_lt Nat.lt_log2_self

/-- The first byte is the high one. -/
theorem joinBytes_toNat (b0 b1 : Byte) : (joinBytes b0 b1).toNat = 256 * b0.toNat + b1.toNat := by
  have h0 := b0.isLt
  have h1 := b1.isLt
  unfold joinBytes
  rw [BitVec.toNat_or, BitVec.toNat_shiftLeft, BitVec.toNat_setWidth, BitVec.toNat_setWidth,
    Nat.mod_eq_of_lt (by omega : b0.toNat < 2 ^ 16), Nat.mod_eq_of_lt (by omega : b1.toNat < 2 ^ 16),
    Nat.shiftLeft_eq, Nat.mod_eq_of_lt (by omega : b0.toNat * 2 ^ 8 < 2 ^ 16), Nat.mul_comm,
    ← Nat.two_pow_add_eq_or_of_lt h1]

/-- A word is its two bytes joined. -/
theorem joinBytes_hi_lo (w : Word16) : joinBytes (hiByte w) (loByte w) = w := by
  apply BitVec.eq_of_toNat_eq
  have := w.isLt
  rw [joinBytes_toNat]
  simp only [hiByte, loByte, BitVec.extractLsb'_toNat, Nat.shiftRight_eq_div_pow]
  omega

/-- A word composed of its own three codes keeps them and takes the fixed bits (30_encoding.md R71). -/
theorem composeCfgWord_codes (w : Word16) :
    composeCfgWord (w.extractLsb' 12 3) (w.extractLsb' 9 3) (w.extractLsb' 5 3) = w &&& 0x7EE0 ||| 0x8103 := by
  apply BitVec.eq_of_getLsbD_eq
  intro k hk
  simp only [composeCfgWord, placeAt]
  interval_cases k <;> simp

end Sys2Proof.Machine
end

