-- ==== Sys2Proof/Laws/PerInstr.lean ====
section
/-! SUPPORT. Statements made per instruction: FixedBits says that an encoding in the adopted configuration carries the
fixed bits of its row of spec/opcode_table.json (columns `format`, `mask`, `match`), and that rows of format FUNC and
EVENT have none. -/

namespace Sys2Proof.Laws.FixedBits

open Sys2Proof

/-- The bits under `mask` are those of `pattern`. -/
def Fixed {n : Nat} (w mask pattern : BitVec n) : Prop := w &&& mask = pattern

/-- The encoding of `i` has its row's format and fixed bits. -/
def Statement (i : Instr) : Prop :=
  match i with
  | .nop => ∃ w, encode Machine.adopted i = some (.cmd64 w) ∧ Fixed w 0xC000000000000000 0
  | .construct _ _ => ∃ w, encode Machine.adopted i = some (.cmd64 w) ∧ Fixed w 0xC000000000000000 0x4000000000000000
  | .readSe _ _ _ => ∃ w, encode Machine.adopted i = some (.cmd64 w) ∧ Fixed w 0xC000000000000000 0x8000000000000000
  | .readDiff _ _ _ => ∃ w, encode Machine.adopted i = some (.cmd64 w) ∧ Fixed w 0xC000000000000000 0xC000000000000000
  | .accept _ => ∃ c e, encode Machine.adopted i = some (.phase3 c e) ∧ Fixed c 7 0
  | .writeCfg _ => ∃ c e, encode Machine.adopted i = some (.phase3 c e) ∧ Fixed c 7 1
  | .waitTick => ∃ c e, encode Machine.adopted i = some (.phase3 c e) ∧ Fixed c 7 2
  | .waitExit => ∃ c e, encode Machine.adopted i = some (.phase3 c e) ∧ Fixed c 7 2
  | .readConv _ => ∃ c e, encode Machine.adopted i = some (.phase3 c e) ∧ Fixed c 7 3
  | .respond => ∃ c e, encode Machine.adopted i = some (.phase3 c e) ∧ Fixed c 7 4
  | .w3 _ _ => ∃ w o, encode Machine.adopted i = some (.frame24 w o) ∧ Fixed w 0xFF0000 0x010000
  | .r1plus2 _ => ∃ w o, encode Machine.adopted i = some (.frame8 w o) ∧ Fixed w 0xFF 0
  | .cfgWord _ _ _ => ∃ w, encode Machine.adopted i = some (.cfg16 w) ∧ Fixed w 0x811F 0x8103
  | .lookupRate _ _ => encode Machine.adopted i = none
  | .lookupGain _ _ => encode Machine.adopted i = none
  | .resolveSe _ => encode Machine.adopted i = none
  | .resolveDiff _ _ => encode Machine.adopted i = none
  | .build _ _ _ => encode Machine.adopted i = none
  | .defaulted _ => encode Machine.adopted i = none
  | .waitTicks _ => encode Machine.adopted i = none
  | .raw16 _ _ => encode Machine.adopted i = none
  | .shift12 _ => encode Machine.adopted i = none
  | .convert _ _ _ => encode Machine.adopted i = none
  | .reset => encode Machine.adopted i = none

/-- The two opcode bits stand at the top of a command word. -/
theorem packCommand_op (op : BitVec 2) (x y z : Bool) (a b : Byte) (g r : Word16) :
    packCommand op x y z a b g r &&& 0xC000000000000000 = placeAt op 62 := by
  apply BitVec.eq_of_getLsbD_eq
  intro k hk
  simp only [packCommand, placeAt]
  interval_cases k <;> simp

theorem nop : Statement .nop := ⟨_, rfl, packCommand_op _ _ _ _ _ _ _ _⟩

theorem construct (variantSel : Byte) (addr : DevAddr) : Statement (.construct variantSel addr) :=
  ⟨_, rfl, packCommand_op _ _ _ _ _ _ _ _⟩

theorem readSe (ch : Option Byte) (gain rate : Option Word16) : Statement (.readSe ch gain rate) :=
  ⟨_, rfl, packCommand_op _ _ _ _ _ _ _ _⟩

theorem readDiff (pair : Option (Byte × Byte)) (gain rate : Option Word16) : Statement (.readDiff pair gain rate) :=
  ⟨_, rfl, packCommand_op _ _ _ _ _ _ _ _⟩

theorem accept (cmdWord : CmdWord) : Statement (.accept cmdWord) := ⟨_, _, rfl, rfl⟩

theorem writeCfg (o : WriteOutcome) : Statement (.writeCfg o) := ⟨_, _, rfl, rfl⟩

theorem waitTick : Statement .waitTick := ⟨_, _, rfl, rfl⟩

theorem waitExit : Statement .waitExit := ⟨_, _, rfl, rfl⟩

theorem readConv (o : ReadOutcome) : Statement (.readConv o) := ⟨_, _, rfl, rfl⟩

theorem respond : Statement .respond := ⟨_, _, rfl, rfl⟩

theorem w3 (word : Word16) (o : WriteOutcome) : Statement (.w3 word o) := by
  refine ⟨_, _, rfl, ?_⟩
  apply BitVec.eq_of_getLsbD_eq
  intro k hk
  simp only [placeAt, Machine.adopted]
  interval_cases k <;> simp

theorem r1plus2 (o : ReadOutcome) : Statement (.r1plus2 o) := ⟨_, _, rfl, rfl⟩

theorem cfgWord (ch gain rate : BitVec 3) : Statement (.cfgWord ch gain rate) := by
  refine ⟨_, rfl, ?_⟩
  apply BitVec.eq_of_getLsbD_eq
  intro k hk
  simp only [composeCfgWord, placeAt]
  interval_cases k <;> simp

theorem lookupRate (w r : Word16) : Statement (.lookupRate w r) := rfl

theorem lookupGain (w g : Word16) : Statement (.lookupGain w g) := rfl

theorem resolveSe (c : Byte) : Statement (.resolveSe c) := rfl

theorem resolveDiff (p n : Byte) : Statement (.resolveDiff p n) := rfl

theorem build (sel : Selector) (g r : Word16) : Statement (.build sel g r) := rfl

theorem defaulted (c : ReadCmd) : Statement (.defaulted c) := rfl

theorem waitTicks (r : Word16) : Statement (.waitTicks r) := rfl

theorem raw16 (b0 b1 : Byte) : Statement (.raw16 b0 b1) := rfl

theorem shift12 (raw : Int) : Statement (.shift12 raw) := rfl

theorem convert (v : Variant) (g : Gain) (w : Word16) : Statement (.convert v g w) := rfl

theorem reset : Statement .reset := rfl

end Sys2Proof.Laws.FixedBits
end

