-- ==== Sys2Proof/Laws/Step.lean ====
section
/-! SUPPORT. What one step can do, said once, and how runs chain. -/

namespace Sys2Proof.Machine

/-- A command row is the offer of its command. -/
theorem exec_commandInstr (c : Command) (s : State) : exec (commandInstr c) s = offerCommand c s := by
  rcases c with _ | ⟨v, a⟩ | (⟨ch, g, r⟩ | ⟨p, g, r⟩) <;> rfl

theorem fetch_offer (s : State) (w : CmdWord) : fetch s (.offer w) = .ok (commandInstr (decodeCommand w)) := rfl

theorem fetch_busWrite (s : State) (o : WriteOutcome) :
    fetch s (.busWrite o) = if s.phase = .writeCfg then .ok (.writeCfg o) else .error .notEnabled := by
  simp only [fetch, decode]
  cases s.phase <;> simp [decodePhase, phaseCode]

theorem fetch_busRead (s : State) (o : ReadOutcome) :
    fetch s (.busRead o) = if s.phase = .readConv then .ok (.readConv o) else .error .notEnabled := by
  simp only [fetch, decode]
  cases s.phase <;> simp [decodePhase, phaseCode]

theorem fetch_seq (s : State) :
    fetch s .seq = if s.phase = .wait then .ok .waitExit else .error .notEnabled := by
  simp only [fetch, decode]
  cases s.phase <;> simp [decodePhase, phaseCode]

theorem fetch_take (s : State) :
    fetch s .take = if s.phase = .respond then .ok .respond else .error .notEnabled := by
  simp only [fetch, decode]
  cases s.phase <;> simp [decodePhase, phaseCode]

/-- Everything a step that answers a next state can have done. -/
inductive StepCase (s t : State) : Prop where
  | quiet (h : s.inputs = []) (ht : t = s)
  | passed (e : Event) (rest : List Event) (h : s.inputs = e :: rest) (ht : t = { s with inputs := rest })
  | offered (w : CmdWord) (rest : List Event) (h : s.inputs = .offer w :: rest)
      (ht : offerCommand (decodeCommand w) { s with inputs := rest } = .next t)
  | reset (rest : List Event) (h : s.inputs = .reset :: rest) (ht : execReset { s with inputs := rest } = .next t)
  | ticked (rest : List Event) (h : s.inputs = .tick :: rest) (ht : execWaitTick { s with inputs := rest } = .next t)
  | wrote (o : WriteOutcome) (rest : List Event) (h : s.inputs = .busWrite o :: rest) (hp : s.phase = .writeCfg)
      (ht : execWriteCfg o { s with inputs := rest } = .next t)
  | left (rest : List Event) (h : s.inputs = .seq :: rest) (hp : s.phase = .wait)
      (ht : execWaitExit { s with inputs := rest } = .next t)
  | got (o : ReadOutcome) (rest : List Event) (h : s.inputs = .busRead o :: rest) (hp : s.phase = .readConv)
      (ht : execReadConv o { s with inputs := rest } = .next t)
  | taken (rest : List Event) (h : s.inputs = .take :: rest) (hp : s.phase = .respond)
      (ht : execRespond { s with inputs := rest } = .next t)

theorem step_cases {s t : State} (h : step s = .next t) : StepCase s t := by
  unfold step at h
  split at h
  case h_1 hi => cases h; exact .quiet hi rfl
  case h_2 e rest hi =>
    cases e with
    | offer w => rw [fetch_offer] at h; exact .offered w rest hi ((exec_commandInstr _ _).symm.trans h)
    | tick => exact .ticked rest hi h
    | reset => exact .reset rest hi h
    | busWrite o =>
      rw [fetch_busWrite] at h
      by_cases hp : s.phase = .writeCfg
      · rw [if_pos hp] at h; exact .wrote o rest hi hp h
      · rw [if_neg hp] at h; cases h; exact .passed _ rest hi rfl
    | busRead o =>
      rw [fetch_busRead] at h
      by_cases hp : s.phase = .readConv
      · rw [if_pos hp] at h; exact .got o rest hi hp h
      · rw [if_neg hp] at h; cases h; exact .passed _ rest hi rfl
    | seq =>
      rw [fetch_seq] at h
      by_cases hp : s.phase = .wait
      · rw [if_pos hp] at h; exact .left rest hi hp h
      · rw [if_neg hp] at h; cases h; exact .passed _ rest hi rfl
    | take =>
      rw [fetch_take] at h
      by_cases hp : s.phase = .respond
      · rw [if_pos hp] at h; exact .taken rest hi hp h
      · rw [if_neg hp] at h; cases h; exact .passed _ rest hi rfl

theorem run_one (s : State) : core.run 1 s = step s := by
  simp only [Host.Core.run, core]
  cases step s <;> rfl

/-- A run of `a` steps followed by a run of `b` steps. -/
theorem run_add {a b : Nat} {s t : State} (h : core.run a s = .next t) : core.run (a + b) s = core.run b t := by
  induction a generalizing s with
  | zero => cases h; rw [Nat.zero_add]
  | succ n ih =>
    rw [Nat.succ_add_eq_add_succ, Nat.add_succ]
    simp only [Host.Core.run] at h ⊢
    split at h
    · exact ih h
    · cases h
    · cases h

end Sys2Proof.Machine
end

