-- ==== Sys2Proof/Tests/Slice0.lean ====
section
/-! SUPPORT. The model's own tests: expected results are those of spec/95_test_vectors.md (section named at each group),
then a witness for every statement that has hypotheses, clause by clause. -/

namespace Sys2Proof.Tests

open Sys2Proof.Machine

/-- The next state, if there is one. -/
def after (r : StepResult) : Option State :=
  match r with
  | .next t => some t
  | .fault _ => none
  | .refused _ => none

/-- The element a model fault names. -/
def faultOf (r : StepResult) : Option Element :=
  match r with
  | .next _ => none
  | .fault (.noValue e) => some e
  | .refused _ => none

/-- A constructed block at address 0x48, idle (spec/95 P1 and P2 after step 2). -/
def bound (v : Variant) : State :=
  { State.reset with constructed := true, variant := some v, devAddr := some 0x48 }

/-- The block of spec/95 P1 in a phase of its read command. -/
def midRead (p : Phase) : State :=
  { bound .hires with phase := p, activeGain := some 4096, reqRate := some 128, cfgWord := some 0xD383 }

/-- The same with a timer value. -/
def waiting (n : Nat) : State := { midRead .wait with timer := some n }

/-- The same with its answer ready. -/
def answered : State :=
  { midRead .respond with rspStatus := some 0, rspInfo := some 0, rspValue := some 19087360 }

/-- Another configuration: 10000 ticks a second (spec/95 2.4), other pointers, another default gain. -/
def otherConfig : Config := { adopted with tickHz := 10000, ptrConfig := 3, ptrConversion := 2, defaultGain := 256 }

/-- The three response registers. -/
def response (s : State) : Option (BitVec 4) × Option Word16 × Option (BitVec 32) := (s.rspStatus, s.rspInfo, s.rspValue)

/-! ### Well-formedness: each check refuses an ill-formed term -/

theorem test_wf_cfgWord : (Instr.cfgWord 0 6 0).wf = false ∧ (Instr.cfgWord 0 5 0).wf = true := by decide
theorem test_wf_waitTicks : (Instr.waitTicks 0).wf = false ∧ (Instr.waitTicks 1).wf = true := by decide
theorem test_wf_shift12 :
    (Instr.shift12 32768).wf = false ∧ (Instr.shift12 (-32769)).wf = false ∧ (Instr.shift12 (-32768)).wf = true := by
  decide
theorem test_wf_convert : (Instr.convert .std 6143 0).wf = false ∧ (Instr.convert .std 6144 0).wf = true := by decide

/-! ### Decoding: words written out from 30_encoding.md (spec/95 2.6, 2.2) -/

theorem test_decode_nop : decode adopted (.cmd64 0x0000000000000000) = .ok .nop := by decide
theorem test_decode_construct : decode adopted (.cmd64 0x4000004800000000) = .ok (.construct 0 0x48) := by decide
theorem test_decode_readSe :
    decode adopted (.cmd64 0xB8000200080001DB) = .ok (.readSe (some 2) (some 2048) (some 475)) := by decide
theorem test_decode_readSe_channel_only : decode adopted (.cmd64 0xA000030000000000) = .ok (.readSe (some 3) none none) := by
  decide
theorem test_decode_readSe_reserved_bits : decode adopted (.cmd64 0x87FF000000000000) = .ok (.readSe none none none) := by decide
theorem test_decode_readDiff :
    decode adopted (.cmd64 0xF8000103020000FA) = .ok (.readDiff (some (1, 3)) (some 512) (some 250)) := by decide
theorem test_decode_accept : decode adopted (.phase3 0b000 (.offer 1)) = .ok (.accept 1) := by decide
theorem test_decode_writeCfg : decode adopted (.phase3 0b001 (.busWrite (.fail 5))) = .ok (.writeCfg (.fail 5)) := by decide
theorem test_decode_waitTick : decode adopted (.phase3 0b010 .tick) = .ok .waitTick := by decide
theorem test_decode_waitExit : decode adopted (.phase3 0b010 .seq) = .ok .waitExit := by decide
theorem test_decode_readConv : decode adopted (.phase3 0b011 (.busRead (.ok 1 2))) = .ok (.readConv (.ok 1 2)) := by decide
theorem test_decode_respond : decode adopted (.phase3 0b100 .take) = .ok .respond := by decide
theorem test_decode_unused_phase : decode adopted (.phase3 0b111 .take) = .error .unusedPhaseCode := by decide
theorem test_decode_w3 : decode adopted (.frame24 0x01A9A3 .ok) = .ok (.w3 0xA9A3 .ok) := by decide
theorem test_decode_w3_wrong_pointer : decode adopted (.frame24 0x00A9A3 .ok) = .error .notConfigPointer := by decide
theorem test_decode_r1plus2 : decode adopted (.frame8 0x00 (.fail 0x11)) = .ok (.r1plus2 (.fail 0x11)) := by decide
theorem test_decode_cfgWord : decode adopted (.cfg16 0b1011101100000011) = .ok (.cfgWord 0b011 0b101 0b000) := by decide
theorem test_decode_cfgWord_refused :
    decode adopted (.cfg16 0x5383) = .error .fixedBits ∧ decode adopted (.cfg16 0x8D03) = .error .gainCodeNeverProduced := by decide
theorem test_encode_readSe : encode adopted (.readSe (some 4) (some 6144) (some 250)) = some (.cmd64 0xB8000400180000FA) := by
  decide

/-! ### One step each (spec/95 2.3 to 2.8, P1 to P4) -/

theorem test_nop : (after (step { bound .std with inputs := [.offer 0] })) = some (bound .std) := by decide
theorem test_construct_hires :
    (after (exec (.construct 1 0x48) State.reset)).map (fun t => (t.variant, t.devAddr, t.constructed)) =
      some (some .hires, some 0x48, true) ∧
    (after (exec (.construct 1 0x48) State.reset)).map response = some (some 0, some 0, some 0) := by decide
theorem test_construct_unknown :
    (after (exec (.construct 2 0x48) State.reset)).map (fun t => (t.variant, t.constructed)) = some (none, false) ∧
    (after (exec (.construct 2 0x48) State.reset)).map response = some (some 1, some 2, some 0) := by decide
theorem test_readSe_latches :
    (after (exec (.readSe (some 1) (some 4096) (some 128)) (bound .hires))).map
      (fun t => (t.phase, t.activeGain, t.reqRate, t.cfgWord)) =
      some (.writeCfg, some 4096, some 128, some 0xD383) := by decide
theorem test_readSe_first_error :
    (after (exec (.readSe (some 9) (some 7) (some 250)) (bound .hires))).map (fun t => (response t, t.activeGain)) =
      some ((some 3, some 7, some 0), none) := by decide
theorem test_readDiff_defaulted :
    (after (exec (.readDiff none none none) (bound .std))).map (fun t => (t.activeGain, t.reqRate, t.cfgWord)) =
      some (some 6144, some 1600, some 0x8183) := by decide
theorem test_readDiff_illegal_pair :
    (after (exec (.readDiff (some (2, 1)) (some 6144) (some 1600)) (bound .std))).map response =
      some (some 5, some 0x0201, some 0) := by decide
theorem test_accept :
    (after (exec (.accept 0xB800000018000064) (bound .hires))).map response = some (some 2, some 0x0064, some 0) := by
  decide
theorem test_accept_not_ready : after (exec (.accept 0x8000000000000000) State.reset) = some State.reset := by decide
theorem test_writeCfg_ok :
    (after (exec (.writeCfg .ok) (midRead .writeCfg))).map (fun t => (t.phase, t.trace)) =
      some (.wait, [.write 0x48 [0x01, 0xD3, 0x83] .ok]) := by decide
theorem test_writeCfg_fail :
    (after (exec (.writeCfg (.fail 5)) (midRead .writeCfg))).map (fun t => (response t, t.timer)) =
      some ((some 6, some 5, some 0), none) := by decide
theorem test_waitTick :
    (after (exec .waitTick (waiting 3))).map (fun t => (t.timer, t.trace)) = some (some 2, [.tick]) := by decide
theorem test_waitTick_zero :
    (after (exec .waitTick (waiting 0))).map (fun t => (t.timer, t.trace)) = some (some 0, [.tick]) := by decide
theorem test_waitExit_early : after (exec .waitExit (waiting 1)) = some (waiting 1) := by decide
theorem test_waitExit : (after (exec .waitExit (waiting 0))).map State.phase = some .readConv := by decide
theorem test_readConv_ok :
    (after (exec (.readConv (.ok 0x12 0x34)) (midRead .readConv))).map (fun t => (t.rawSample, response t)) =
      some (some 0x1234, (some 0, some 0, some 0x01234000)) := by decide
theorem test_readConv_fail :
    (after (exec (.readConv (.fail 0x11)) (midRead .readConv))).map (fun t => (t.trace, response t)) =
      some ([.read 0x48 [0x00] 2 (.fail 0x11)], (some 7, some 0x11, some 0)) := by decide
theorem test_respond :
    (after (exec .respond answered)).map (fun t => (t.phase, t.delivered)) = some (.idle, [⟨0, 0, 19087360⟩]) := by
  decide
theorem test_w3 :
    (after (exec (.w3 0xE5C3 (.fail 5)) (bound .hires))).map State.trace =
      some [.write 0x48 [0x01, 0xE5, 0xC3] (.fail 5)] := by decide
theorem test_r1plus2 :
    (after (exec (.r1plus2 (.ok 0x80 0x01)) (bound .hires))).map State.trace =
      some [.read 0x48 [0x00] 2 (.ok 0x80 0x01)] := by decide
theorem test_cfgWord :
    (after (exec (.cfgWord 0b101 0b001 0b100) State.reset)).map State.result = some (some (.word 0xD383)) := by decide
theorem test_lookupRate :
    (after (exec (.lookupRate 0x0103 128) (bound .hires))).map State.result = some (some (.built (.word 0x0183))) := by
  decide
theorem test_lookupRate_other_variant :
    (after (exec (.lookupRate 0x0103 1600) (bound .hires))).map State.result =
      some (some (.built (.raised .invalidSampleRate 1600))) := by decide
theorem test_lookupGain :
    (after (exec (.lookupGain 0x0183 4096) State.reset)).map State.result = some (some (.built (.word 0x0383))) := by
  decide
theorem test_lookupGain_illegal :
    (after (exec (.lookupGain 0x0183 6145) State.reset)).map State.result =
      some (some (.built (.raised .invalidGain 6145))) := by decide
theorem test_resolveSe :
    (after (exec (.resolveSe 1) State.reset)).map State.result = some (some (.built (.word 0x5000))) := by decide
theorem test_resolveSe_illegal :
    (after (exec (.resolveSe 255) State.reset)).map State.result =
      some (some (.built (.raised .invalidChannel 0x00FF))) := by decide
theorem test_resolveDiff_zero_field :
    (after (exec (.resolveDiff 0 1) State.reset)).map State.result = some (some (.built (.word 0x0000))) := by decide
theorem test_resolveDiff_reversed :
    (after (exec (.resolveDiff 1 0) State.reset)).map State.result =
      some (some (.built (.raised .invalidChannelPair 0x0100))) := by decide
theorem test_build :
    (after (exec (.build (.diff 0 3) 6144 250) (bound .std))).map State.result =
      some (some (.built (.word 0x9123))) := by decide
theorem test_build_rate_wins :
    (after (exec (.build (.se 9) 7 0) (bound .hires))).map State.result =
      some (some (.built (.raised .invalidSampleRate 0))) := by decide
theorem test_defaulted :
    (after (exec (.defaulted (.se (some 3) none none)) (bound .std))).map State.result =
      some (some (.request ⟨.se 3, 6144, 1600⟩)) := by decide
theorem test_waitTicks :
    (after (exec (.waitTicks 3300) State.reset)).map State.result = some (some (.ticks 405)) := by decide
theorem test_waitTicks_other_tick_rates :
    waitTicks otherConfig 8 = 1252 ∧ waitTicks otherConfig 128 = 81 ∧ waitTicks otherConfig 250 = 42 ∧
    waitTicks otherConfig 3300 = 6 ∧ waitTicks { adopted with tickHz := 32768 } 128 = 261 ∧
    waitTicks { adopted with tickHz := 32768 } 860 = 44 := by decide
theorem test_other_config_wait :
    (after (exec (.writeCfg .ok) { midRead .writeCfg with config := otherConfig, reqRate := some 3300 })).map
      (fun t => (t.phase, t.timer, t.trace)) =
      some (.wait, some 6, [.write 0x48 [0x03, 0xD3, 0x83] .ok]) := by decide
theorem test_other_config_default_gain :
    (after (exec (.readSe (some 3) none none) { bound .std with config := otherConfig })).map
      (fun t => (t.activeGain, t.cfgWord)) = some (some 256, some 0xFB83) := by decide
theorem test_raw16 :
    (after (exec (.raw16 0xAB 0xCD) State.reset)).map State.result = some (some (.reading (-21555))) := by decide
theorem test_shift12_rounds_down :
    (after (exec (.shift12 (-1)) State.reset)).map State.result = some (some (.reading (-1))) := by decide
theorem test_shift12 :
    (after (exec (.shift12 (-32753)) State.reset)).map State.result = some (some (.reading (-2048))) := by decide
theorem test_convert_std :
    (after (exec (.convert .std 4096 0xABCD) State.reset)).map State.result = some (some (.value 0xFABC0000)) := by decide
theorem test_convert_hires :
    (after (exec (.convert .hires 6144 0x8000) State.reset)).map State.result = some (some (.value 0xF4000000)) := by
  decide
theorem test_reset :
    (after (exec .reset answered)).map (fun t => (t.phase, t.variant, t.rspStatus)) = some (.idle, none, none) := by
  decide

/-! ### The table words run as the first instruction after reset (log entries 16, 17) -/

theorem test_decodeTableWord :
    decodeTableWord 64 0x4000000000000000 = some (.construct 0 0) ∧ decodeTableWord 24 0x010000 = some (.w3 0 (.fail 0)) ∧
    decodeTableWord 16 0x8103 = some (.cfgWord 0 0 0) ∧ decodeTableWord 8 0 = some (.r1plus2 (.fail 0)) ∧
    decodeTableWord 8 4 = some .respond := by decide
theorem test_withFetchWord :
    (after (step (State.reset.withFetchWord 64 0x8000000000000000))).map State.cfgWord = some (some 0xC183) ∧
    (after (step (State.reset.withFetchWord 8 1))).map State.rspStatus = some (some 6) ∧
    (after (step (State.reset.withFetchWord 8 2))).map State.timer = some (some 725) ∧
    (after (step (State.reset.withFetchWord 24 0x01D383))).map State.trace =
      some [.write 0x48 [0x01, 0xD3, 0x83] (.fail 0)] := by decide

/-! ### Witnesses: each statement's hypotheses, met together -/

theorem test_witness_EncodeThenDecode :
    (Instr.cfgWord 7 5 7).wf = true ∧ encode adopted (.cfgWord 7 5 7) = some (.cfg16 0xFBE3) ∧
    (Instr.readDiff (some (255, 255)) (some 65535) none).wf = true ∧
    encode adopted (.readDiff (some (255, 255)) (some 65535) none) = some (.cmd64 0xF000FFFFFFFF0000) := by decide
theorem test_witness_UnexaminedCommandBitsAreIgnored :
    (0x8000000000000000#64 &&& examinedBits 0x8000000000000000 =
      0x87FFFFFFFFFFFFFF#64 &&& examinedBits 0x8000000000000000) ∧
    (0x4000014800000000#64 &&& examinedBits 0x4000014800000000 =
      0x7FFF01C8FFFFFFFF#64 &&& examinedBits 0x4000014800000000) := by decide
theorem test_witness_BuiltWordsAreConfigurationWords :
    build adopted .hires (.se 3) 256 860 = .word 0xFBE3 ∧ build adopted .std (.diff 0 1) 6144 128 = .word 0x8103 := by
  decide
theorem test_witness_BuiltWordHoldsExactlyItsFields :
    tablesValid adopted = true ∧ build adopted .hires (.se 1) 4096 128 = .word 0xD383 := by decide
theorem test_witness_BuildIsInjective :
    tablesValid adopted = true ∧ build adopted .std (.se 0) 6144 1600 = .word 0xC183 ∧
    build adopted .std (.se 0) 6144 1600 = .word 0xC183 := by decide
theorem test_witness_LookupRateAddsTheRateField :
    (bound .std).variant = some .std ∧ (rateField (bound .std).config .std).lookup 3300 = some 0x00C0 ∧
    (860 : Word16) ∉ ratesIn (bound .std).config .std ∧ (bound .std).config = adopted ∧ (ratesOf .std)[0]? = some 128 ∧
    (ratesOf .std)[6]? = some 3300 ∧ (860 : Word16) ∉ ratesOf .std ∧ (bound .hires).variant = some .hires ∧
    (ratesOf .hires)[0]? = some 8 ∧ (ratesOf .hires)[7]? = some 860 ∧ (1600 : Word16) ∉ ratesOf .hires := by decide
theorem test_witness_LookupGainAddsTheGainField :
    State.reset.config.gainField.lookup 4096 = some 0x0200 ∧ (255 : Word16) ∉ State.reset.config.gainField.map Prod.fst ∧
    State.reset.config = adopted ∧ gains[0]? = some 6144 ∧ gains[5]? = some 256 ∧ (255 : Word16) ∉ gains ∧
    (6145 : Word16) ∉ gains := by decide
theorem test_witness_ResolveSeGivesTheChannelField :
    State.reset.config.seField.lookup 3 = some 0x7000 ∧ (4 : Byte) ∉ State.reset.config.seField.map Prod.fst ∧
    State.reset.config = adopted ∧ (0 : Byte).toNat < 4 ∧ (3 : Byte).toNat < 4 ∧ 4 ≤ (4 : Byte).toNat ∧
    4 ≤ (255 : Byte).toNat := by decide
theorem test_witness_ResolveDiffGivesThePairField :
    State.reset.config.diffField.lookup (0, 1) = some 0x0000 ∧
    ((1, 0) : Byte × Byte) ∉ State.reset.config.diffField.map Prod.fst ∧ State.reset.config = adopted ∧
    pairs[0]? = some (0, 1) ∧ pairs[3]? = some (2, 3) ∧ ((1, 0) : Byte × Byte) ∉ pairs ∧
    ((255, 255) : Byte × Byte) ∉ pairs := by decide
theorem test_witness_BuildGivesTheWordOrTheFirstError :
    (bound .hires).variant = some .hires ∧ (rateField (bound .hires).config .hires).lookup 860 = some 0x00E0 ∧
    (bound .hires).config.gainField.lookup 256 = some 0x0A00 ∧
    resolve (bound .hires).config (.diff 0 1) = .word 0x0000 ∧ (0 : Word16) ∉ ratesIn (bound .hires).config .hires ∧
    (8 : Word16) ∈ ratesIn (bound .hires).config .hires ∧
    (0 : Word16) ∉ (bound .hires).config.gainField.map Prod.fst ∧
    (6144 : Word16) ∈ (bound .hires).config.gainField.map Prod.fst ∧
    (4 : Byte) ∉ (bound .hires).config.seField.map Prod.fst ∧
    ((3, 2) : Byte × Byte) ∉ (bound .hires).config.diffField.map Prod.fst ∧ (bound .hires).config = adopted ∧
    (ratesOf .hires)[7]? = some 860 ∧ gains[5]? = some 256 ∧ selectorCode (.se 3) = some 7 := by decide
theorem test_witness_DefaultsAreSubstitutedAndValid :
    ((some 250 : Option Word16).isSome = true ∨ State.reset.variant = some .std) ∧
    ((none : Option Word16).isSome = true ∨ (bound .std).variant = some .std) ∧
    tablesValid (bound .std).config = true ∧ tablesValid otherConfig = true ∧ (bound .std).phase = .idle ∧
    (bound .std).constructed = true := by decide
theorem test_witness_WaitTicksIsTheCeilingPlusMargin : (1 : Word16) ≠ 0 ∧ (65535 : Word16) ≠ 0 ∧ (0 : Word16) = 0 := by
  decide
theorem test_witness_WaitTicksCoverTheSettleDelay : 0 < adopted.tickHz ∧ (8 : Word16) ≠ 0 := by decide
theorem test_witness_LegalDelaysFitTheTimer :
    (8 : Word16) ∈ ratesIn adopted .hires ∧ (3300 : Word16) ∈ ratesIn otherConfig .std ∧
    tablesValid otherConfig = true := by decide
theorem test_witness_ResetLeavesOnlyPhaseAndConstructed : State.reset = State.resetOf adopted := by decide
theorem test_witness_ResetEventRestoresTheResetState :
    ({ waiting 5 with inputs := [.reset, .tick] } : State).inputs = [.reset, .tick] := by decide
theorem test_witness_OnlyReadyCommandsAreAccepted :
    cmdReady (decodeCommand 0x4000014800000000) { bound .std with inputs := [.offer 0x4000014800000000] } = false ∧
    cmdReady (decodeCommand 0x8000000000000000) State.reset = false ∧
    cmdReady (decodeCommand 0x8000000000000000) (waiting 0) = false := by decide
theorem test_witness_AcceptCompletes :
    (cmdReady (decodeCommand 0x4000014800000000) State.reset = true ∧
      (State.reset.constructed = true → State.reset.variant.isSome = true)) ∧
    (cmdReady (decodeCommand 0xC000000000000000) (bound .std) = true ∧
      ((bound .std).constructed = true → (bound .std).variant.isSome = true)) := by decide
theorem test_witness_NopIsInert :
    cmdOp 0x3FFFFFFFFFFFFFFF = 0 ∧
    ({ waiting 0 with inputs := [.offer 0x3FFFFFFFFFFFFFFF] } : State).inputs = [.offer 0x3FFFFFFFFFFFFFFF] := by decide
theorem test_witness_ConstructBindsOrRejects :
    State.reset.phase = .idle ∧ State.reset.constructed = false ∧ (0 : Byte).toNat ≤ 1 ∧ (1 : Byte).toNat ≤ 1 ∧
    2 ≤ (2 : Byte).toNat ∧ 2 ≤ (255 : Byte).toNat := by decide
theorem test_witness_ReadSeLatchesALegalRequest :
    (bound .hires).phase = .idle ∧ (bound .hires).constructed = true ∧ (bound .hires).variant = some .hires ∧
    (3 : Byte) = (some 3 : Option Byte).getD (bound .hires).config.defaultChannel ∧
    (6144 : Word16) = (none : Option Word16).getD (bound .hires).config.defaultGain ∧
    (128 : Word16) = (none : Option Word16).getD (defaultRate (bound .hires).config .hires) ∧
    (bound .hires).config.seField.lookup 3 = some 0x7000 ∧ (bound .hires).config.gainField.lookup 6144 = some 0x0000 ∧
    (rateField (bound .hires).config .hires).lookup 128 = some 0x0080 ∧ tablesValid (bound .hires).config = true := by
  decide
theorem test_witness_ReadSeRejectsInOrder :
    (bound .std).phase = .idle ∧ (bound .std).constructed = true ∧ (bound .std).variant = some .std ∧
    (4 : Byte) = (some 4 : Option Byte).getD (bound .std).config.defaultChannel ∧
    (5000 : Word16) = (some 5000 : Option Word16).getD (bound .std).config.defaultGain ∧
    (6144 : Word16) = (none : Option Word16).getD (bound .std).config.defaultGain ∧
    (860 : Word16) = (some 860 : Option Word16).getD (defaultRate (bound .std).config .std) ∧
    (1600 : Word16) = (none : Option Word16).getD (defaultRate (bound .std).config .std) ∧
    (860 : Word16) ∉ ratesIn (bound .std).config .std ∧ (1600 : Word16) ∈ ratesIn (bound .std).config .std ∧
    (5000 : Word16) ∉ (bound .std).config.gainField.map Prod.fst ∧
    (6144 : Word16) ∈ (bound .std).config.gainField.map Prod.fst ∧
    (4 : Byte) ∉ (bound .std).config.seField.map Prod.fst := by decide
theorem test_witness_ReadDiffLatchesALegalRequest :
    (bound .std).phase = .idle ∧ (bound .std).constructed = true ∧ (bound .std).variant = some .std ∧
    ((2, 3) : Byte × Byte) = (some (2, 3) : Option (Byte × Byte)).getD (bound .std).config.defaultPair ∧
    (256 : Word16) = (some 256 : Option Word16).getD (bound .std).config.defaultGain ∧
    (3300 : Word16) = (some 3300 : Option Word16).getD (defaultRate (bound .std).config .std) ∧
    (bound .std).config.diffField.lookup (2, 3) = some 0x3000 ∧
    (bound .std).config.gainField.lookup 256 = some 0x0A00 ∧
    (rateField (bound .std).config .std).lookup 3300 = some 0x00C0 ∧ tablesValid (bound .std).config = true := by decide
theorem test_witness_ReadDiffRejectsInOrder :
    (bound .hires).phase = .idle ∧ (bound .hires).constructed = true ∧ (bound .hires).variant = some .hires ∧
    ((0, 4) : Byte × Byte) = (some (0, 4) : Option (Byte × Byte)).getD (bound .hires).config.defaultPair ∧
    (0 : Word16) = (some 0 : Option Word16).getD (bound .hires).config.defaultGain ∧
    (6144 : Word16) = (none : Option Word16).getD (bound .hires).config.defaultGain ∧
    (1600 : Word16) = (some 1600 : Option Word16).getD (defaultRate (bound .hires).config .hires) ∧
    (128 : Word16) = (none : Option Word16).getD (defaultRate (bound .hires).config .hires) ∧
    (1600 : Word16) ∉ ratesIn (bound .hires).config .hires ∧ (128 : Word16) ∈ ratesIn (bound .hires).config .hires ∧
    (0 : Word16) ∉ (bound .hires).config.gainField.map Prod.fst ∧
    (6144 : Word16) ∈ (bound .hires).config.gainField.map Prod.fst ∧
    ((0, 4) : Byte × Byte) ∉ (bound .hires).config.diffField.map Prod.fst := by decide
theorem test_witness_CommandFrames :
    (after (exec (.construct 0 0x48) State.reset)).isSome = true ∧
    (after (exec (.readSe none none none) (bound .std))).isSome = true ∧
    (after (exec (.readDiff none none (some 0)) (bound .std))).isSome = true := by decide
theorem test_witness_WriteCfgOkStartsTheWait :
    (midRead .writeCfg).phase = .writeCfg ∧ (midRead .writeCfg).cfgWord = some 0xD383 ∧
    (midRead .writeCfg).devAddr = some 0x48 ∧ (midRead .writeCfg).reqRate = some 128 ∧
    (128 : Word16) ∈ ratesIn (midRead .writeCfg).config .hires ∧ (128 : Word16) ≠ 0 := by decide
theorem test_witness_WriteCfgFailAnswersBusWriteError :
    (midRead .writeCfg).phase = .writeCfg ∧ (midRead .writeCfg).cfgWord = some 0xD383 ∧
    (midRead .writeCfg).devAddr = some 0x48 := by decide
theorem test_witness_TickCountsDownInWaitOnly :
    (waiting 0).phase = .wait ∧ (waiting 0).timer = some 0 ∧ (waiting 5).timer = some 5 ∧
    (midRead .readConv).phase ≠ .wait ∧ ({ answered with inputs := [.tick] } : State).inputs = [.tick] := by decide
theorem test_witness_WaitExitNeedsTimerZero :
    (waiting 0).phase = .wait ∧ (waiting 0).timer = some 0 ∧ (waiting 1).timer = some 1 ∧ (1 : Nat) ≠ 0 := by decide
theorem test_witness_ReadConvOkAnswersTheConvertedSample :
    (midRead .readConv).phase = .readConv ∧ (midRead .readConv).variant = some .hires ∧
    (midRead .readConv).activeGain = some 4096 ∧ (midRead .readConv).devAddr = some 0x48 := by decide
theorem test_witness_ReadConvFailAnswersBusReadError :
    (midRead .readConv).phase = .readConv ∧ (midRead .readConv).devAddr = some 0x48 := by decide
theorem test_witness_RespondDeliversTheTriple :
    answered.phase = .respond ∧ visibleResponse answered = some ⟨0, 0, 19087360⟩ := by decide
theorem test_witness_StepsOutsideTheirPhaseDoNothing :
    (waiting 0).phase ≠ .writeCfg ∧ (bound .std).phase ≠ .wait ∧ (waiting 0).phase ≠ .readConv ∧
    (waiting 0).phase ≠ .respond := by decide
theorem test_witness_PhaseStepFrames :
    (after (exec (.writeCfg .ok) (midRead .writeCfg))).isSome = true ∧
    (after (exec .waitTick (waiting 1))).isSome = true ∧ (after (exec .waitExit (waiting 0))).isSome = true ∧
    (after (exec (.readConv (.ok 0 0)) (midRead .readConv))).isSome = true ∧
    (after (exec .respond answered)).isSome = true := by decide
theorem test_witness_FrameW3IsOneWriteTransaction : (bound .std).devAddr = some 0x48 := by decide
theorem test_witness_FrameR1plus2IsOneReadTransaction : (bound .hires).devAddr = some 0x48 := by decide
theorem test_witness_FunctionsArePure :
    isFunction (.build (.se 0) 6144 128) = true ∧
    (after (exec (.build (.se 0) 6144 128) (bound .std))).isSome = true := by decide
theorem test_witness_StepRunsTheDecodedInstruction :
    fetch (waiting 0) .seq = .ok .waitExit ∧ decode adopted (.cmd64 0x8000000000000000) = .ok (.readSe none none none) ∧
    decode adopted (.phase3 (phaseCode (waiting 0).phase) .tick) = .ok .waitTick ∧
    fetch (bound .std) .take = .error .notEnabled ∧ State.reset.inputs = [] := by decide
theorem test_witness_NothingIsRefusedAndFaultsNameAbsentElements :
    faultOf (exec (.lookupRate 0 8) State.reset) = some .variant ∧
    faultOf (exec (.w3 0 .ok) State.reset) = some .devAddr ∧
    faultOf (exec (.readConv (.ok 0 0)) { bound .std with phase := .readConv }) = some .activeGain ∧
    faultOf (exec (.writeCfg .ok) { bound .std with phase := .writeCfg, cfgWord := some 0x8103 }) = some .reqRate ∧
    faultOf (exec (.writeCfg .ok) { bound .std with phase := .writeCfg }) = some .cfgWord ∧
    faultOf (exec .waitTick { bound .std with phase := .wait }) = some .timer ∧
    faultOf (exec .respond { bound .std with phase := .respond }) = some .response := by decide
theorem test_witness_ReadingAnAbsentElementFaults :
    State.reset.variant = none ∧ decodeCommand 0x8000000000000000 = .read (.se none none none) ∧
    ({ State.reset with constructed := true } : State).phase = .idle ∧
    ({ State.reset with constructed := true } : State).variant = none ∧
    ({ State.reset with phase := .writeCfg } : State).cfgWord = none ∧
    ({ State.reset with phase := .writeCfg, cfgWord := some 0 } : State).devAddr = none ∧
    ({ bound .std with phase := .writeCfg, cfgWord := some 0 } : State).reqRate = none ∧
    ({ State.reset with phase := .wait } : State).timer = none ∧
    ({ State.reset with phase := .readConv } : State).devAddr = none ∧
    ({ State.reset with phase := .readConv, devAddr := some 0 } : State).variant = none ∧
    ({ bound .std with phase := .readConv } : State).activeGain = none ∧
    ({ State.reset with phase := .respond } : State).rspValue = none := by decide
theorem test_witness_PhaseChangesOnlyAsTheTableSays :
    (after (step { waiting 0 with inputs := [.seq] })).map State.phase = some .readConv ∧
    Phase.readConv ≠ (waiting 0).phase ∧
    (after (step { State.reset with inputs := [.offer 0x4000004800000000] })).map State.phase = some .respond := by decide
theorem test_witness_BusTrafficComesFromItsPhases :
    (after (step { waiting 0 with inputs := [.tick] })).map State.trace = some [.tick] ∧
    (after (step { midRead .readConv with inputs := [.busRead (.ok 0 0)] })).isSome = true := by decide
theorem test_witness_BindingIsKeptUntilReset :
    (bound .std).constructed = true ∧ (after (step { bound .std with inputs := [.reset] })).isSome = true ∧
    (after (step { bound .std with inputs := [.offer 0x4000014800000000] })).isSome = true := by decide
theorem test_witness_LatchesChangeOnlyAtAcceptance :
    (after (step { bound .std with inputs := [.offer 0x8000000000000000] })).map State.cfgWord = some (some 0xC183) ∧
    (after (step { midRead .writeCfg with inputs := [.busWrite (.fail 0)] })).isSome = true := by decide
theorem test_witness_ResponsesAreStableAndDeliveredOnce :
    (after (step { answered with inputs := [.take] })).map State.delivered = some [⟨0, 0, 19087360⟩] ∧
    (after (step { answered with inputs := [.tick] })).isSome = true := by decide
theorem test_witness_TransportErrorEndsOneCommandOnly :
    (midRead .writeCfg).constructed = true ∧ (midRead .writeCfg).devAddr = some 0x48 ∧
    (midRead .writeCfg).cfgWord = some 0xD383 ∧ (midRead .readConv).phase = .readConv ∧
    ({ midRead .readConv with inputs := [.busRead (.fail 0x11), .take] } : State).inputs =
      .busRead (.fail 0x11) :: .take :: [] := by decide

theorem test_witness_ResetStateMeetsTheInvariant : tablesValid otherConfig = true := by decide

/-- The invariant is met in `WAIT` too: P1 after step 4, which no state with an empty trace is. -/
theorem test_witness_EveryStepKeepsTheInvariant :
    BlockInv { waiting 7914 with trace := [.write 0x48 [0x01, 0xD3, 0x83] .ok] } := by
  refine ⟨by decide, ⟨rfl, rfl, by decide⟩, .inr ⟨.hires, .se 1, 4096, 128, 0xD383, rfl, rfl, rfl, rfl, by decide⟩, ?_,
    ⟨fun _ => ⟨[], 0x48, 0xD383, 128, 7914, 0, rfl, rfl, rfl, rfl, rfl, by decide⟩, fun h => by cases h⟩,
    fun h => by cases h⟩
  intro n h
  cases h
  decide

/-- P1 from step 3: the hypotheses of the end-to-end statement. -/
theorem test_witness_ReadCommandRunsEndToEnd :
    decodeCommand 0xB800010010000080 = .read (.se (some 1) (some 4096) (some 128)) ∧
    buildRequest (bound .hires).config .hires
      (defaulted (bound .hires).config .hires (.se (some 1) (some 4096) (some 128))) = .word 0xD383 ∧
    waitTicks (bound .hires).config 128 ≤ 7914 ∧ (bound .hires).phase = .idle ∧ (bound .hires).constructed = true ∧
    (bound .hires).variant = some .hires ∧ (bound .hires).devAddr = some 0x48 := by decide

theorem test_witness_AdoptedInstanceIsTheListedOne :
    (ratesOf .std)[6]? = some 3300 ∧ gains[5]? = some 256 ∧ pairs[3]? = some (2, 3) := by decide

end Sys2Proof.Tests
end

section
/-! PROOFS. The phase steps outside their phase (42_bus_sequencer.md R121, R126, R127, 44_orchestration.md R161), and
what a step runs (00_scope.md R15). -/

namespace Sys2Proof.Machine

/-! ### Phase steps outside their phase -/

theorem exec_writeCfg_of_phase_ne (o : WriteOutcome) {s : State} (h : s.phase ≠ .writeCfg) :
    exec (.writeCfg o) s = .next s := if_neg h

theorem exec_waitExit_of_phase_ne {s : State} (h : s.phase ≠ .wait) : exec .waitExit s = .next s := if_neg h

theorem exec_readConv_of_phase_ne (o : ReadOutcome) {s : State} (h : s.phase ≠ .readConv) :
    exec (.readConv o) s = .next s := if_neg h

theorem exec_respond_of_phase_ne {s : State} (h : s.phase ≠ .respond) : exec .respond s = .next s := if_neg h

/-- Settles O42: the phase is the guard of each of the four steps. -/
theorem stepsOutsideTheirPhaseDoNothing : Obligations.StepsOutsideTheirPhaseDoNothing :=
  ⟨fun o _ h => exec_writeCfg_of_phase_ne o h, fun _ h => exec_waitExit_of_phase_ne h,
    fun o _ h => exec_readConv_of_phase_ne o h, fun _ h => exec_respond_of_phase_ne h⟩

/-! ### What a step runs -/

theorem step_of_inputs_nil {s : State} (h : s.inputs = []) : step s = .next s := by
  simp only [step, h]

theorem step_of_fetch_ok {s : State} {e : Event} {rest : List Event} {i : Instr} (h : s.inputs = e :: rest)
    (hf : fetch s e = .ok i) : step s = exec i { s with inputs := rest } := by
  simp only [step, h, hf]

theorem step_of_fetch_error {s : State} {e : Event} {rest : List Event} {x : DecodeError}
    (h : s.inputs = e :: rest) (hf : fetch s e = .error x) : step s = .next { s with inputs := rest } := by
  simp only [step, h, hf]

/-- `ACCEPT` of a word runs the command the word decodes to (44_orchestration.md R155). -/
theorem exec_accept (w : CmdWord) (s : State) :
    exec (.accept w) s = exec (commandInstr (decodeCommand w)) s := (exec_commandInstr _ s).symm

/-- The phase code decodes an offer to the `ACCEPT` of its word alone, and that in `IDLE` (30_encoding.md R77). -/
theorem decodePhase_offer {p : Phase} {w : CmdWord} {i : Instr}
    (h : decodePhase (phaseCode p) (.offer w) = .ok i) : i = .accept w := by
  cases p <;> cases h
  rfl

/-- What the phase code decodes an event to is what is fetched for it, but for the joint row `ACCEPT`, in whose place
the offered command itself is fetched. -/
theorem fetch_of_decodePhase {s : State} {e : Event} {i : Instr}
    (h : decodePhase (phaseCode s.phase) e = .ok i) :
    fetch s e = .ok i ∨ ∃ w, e = .offer w ∧ i = .accept w := by
  cases e with
  | offer w => exact .inr ⟨w, rfl, decodePhase_offer h⟩
  | tick =>
    left
    generalize s.phase = p at h
    cases p <;> cases h
    rfl
  | reset =>
    generalize s.phase = p at h
    cases p <;> cases h
  | busWrite o => exact .inl h
  | busRead o => exact .inl h
  | seq => exact .inl h
  | take => exact .inl h

theorem step_of_decodePhase {s : State} {e : Event} {rest : List Event} {i : Instr} (h : s.inputs = e :: rest)
    (hd : decodePhase (phaseCode s.phase) e = .ok i) : step s = exec i { s with inputs := rest } := by
  obtain hf | ⟨w, rfl, rfl⟩ := fetch_of_decodePhase hd
  · exact step_of_fetch_ok h hf
  · rw [step_of_fetch_ok h (fetch_offer s w), exec_accept]

/-- Settles O47, by what is fetched for the next event; an offer the phase code decodes runs `ACCEPT`, which is its
command's own row. -/
theorem stepRunsTheDecodedInstruction : Obligations.StepRunsTheDecodedInstruction := by
  refine ⟨fun s e rest i h hf => step_of_fetch_ok h hf, fun s w rest i h hd => ?_,
    fun s e rest i h hd => step_of_decodePhase h hd, fun s e rest x h hf => step_of_fetch_error h hf,
    fun s h => step_of_inputs_nil h⟩
  have hf : fetch s (.offer w) = .ok i := hd
  exact step_of_fetch_ok h hf

end Sys2Proof.Machine
end

section
/-! PROOFS. What holds of every step (10_state.md R34, R35): progress, and an invariant that each effect of a step
keeps. The phase steps get one equation each in their own phase, `StepEffect` says once what a step can have done to
the state, and every statement about all steps is a case split over it. -/

namespace Sys2Proof.Machine

variable {s t : State}

/-! ### The phase steps in their phase -/

theorem execWriteCfg_ok (hp : s.phase = .writeCfg) :
    execWriteCfg .ok s = need .cfgWord s.cfgWord fun w => need .devAddr s.devAddr fun a =>
      need .reqRate s.reqRate fun r => .next (startWait r (memWrite s.config.ptrConfig a w .ok s)) := if_pos hp

theorem execWriteCfg_fail (e : Byte) (hp : s.phase = .writeCfg) :
    execWriteCfg (.fail e) s = need .cfgWord s.cfgWord fun w => need .devAddr s.devAddr fun a =>
      .next (raiseError .busWriteError (e.setWidth 16) (memWrite s.config.ptrConfig a w (.fail e) s)) := if_pos hp

/-- A tick in `WAIT` lowers the timer, `n - 1` being 0 at 0, and is traced (42_bus_sequencer.md R125). -/
theorem execWaitTick_wait (hp : s.phase = .wait) :
    execWaitTick s = need .timer s.timer fun n => .next (observe .tick { s with timer := some (n - 1) }) := by
  refine (if_pos hp).trans ?_
  cases ht : s.timer with
  | none => rfl
  | some n =>
    cases n with
    | zero =>
      have hs : { s with timer := some 0 } = s := by rw [← ht]
      simp [hs]
    | succ n => rfl

theorem execWaitExit_wait (hp : s.phase = .wait) :
    execWaitExit s = need .timer s.timer fun n => .next (if n = 0 then { s with phase := .readConv } else s) :=
  if_pos hp

theorem execReadConv_ok (b0 b1 : Byte) (hp : s.phase = .readConv) :
    execReadConv (.ok b0 b1) s = need .devAddr s.devAddr fun a => need .variant s.variant fun v =>
      need .activeGain s.activeGain fun g => .next (enterRespond 0 0 (convert v g (joinBytes b0 b1))
        { memRead s.config.ptrConversion a (.ok b0 b1) s with rawSample := some (joinBytes b0 b1) }) := if_pos hp

theorem execReadConv_fail (e : Byte) (hp : s.phase = .readConv) :
    execReadConv (.fail e) s = need .devAddr s.devAddr fun a =>
      .next (raiseError .busReadError (e.setWidth 16) (memRead s.config.ptrConversion a (.fail e) s)) := if_pos hp

theorem execRespond_respond (hp : s.phase = .respond) : execRespond s = returnToIdle s := if_pos hp

/-! ### What a step can have done -/

/-- What a step has done on its event, `s` being the state with the event taken off the schedule. -/
inductive StepEffect (s : State) : Event → State → Prop where
  | nothing (e : Event) : StepEffect s e s
  | bound (w : CmdWord) (sel : Byte) (a : DevAddr) (v : Variant) (hp : s.phase = .idle) (hc : s.constructed = false)
      (hw : decodeCommand w = .construct sel a) : StepEffect s (.offer w) (enterRespond 0 0 0 (bindDriver v a s))
  | rejected (w : CmdWord) (sel : Byte) (a : DevAddr) (hp : s.phase = .idle) (hc : s.constructed = false)
      (hw : decodeCommand w = .construct sel a) :
      StepEffect s (.offer w) (raiseError .invalidVariant (sel.setWidth 16) s)
  | latched (w : CmdWord) (c : ReadCmd) (v : Variant) (x : Word16) (hp : s.phase = .idle) (hc : s.constructed = true)
      (hw : decodeCommand w = .read c) (hv : s.variant = some v)
      (hb : buildRequest s.config v (defaulted s.config v c) = .word x) :
      StepEffect s (.offer w) (latchRequest (defaulted s.config v c).gain (defaulted s.config v c).rate x s)
  | raised (w : CmdWord) (c : ReadCmd) (v : Variant) (k : ErrorKind) (info : Word16) (hp : s.phase = .idle)
      (hc : s.constructed = true) (hw : decodeCommand w = .read c) (hv : s.variant = some v)
      (hb : buildRequest s.config v (defaulted s.config v c) = .raised k info) :
      StepEffect s (.offer w) (raiseError k info s)
  | wrote (a : DevAddr) (w r : Word16) (hp : s.phase = .writeCfg) (hw : s.cfgWord = some w)
      (ha : s.devAddr = some a) (hr : s.reqRate = some r) :
      StepEffect s (.busWrite .ok) (startWait r (memWrite s.config.ptrConfig a w .ok s))
  | writeFailed (a : DevAddr) (w : Word16) (e : Byte) (hp : s.phase = .writeCfg) (hw : s.cfgWord = some w)
      (ha : s.devAddr = some a) : StepEffect s (.busWrite (.fail e))
        (raiseError .busWriteError (e.setWidth 16) (memWrite s.config.ptrConfig a w (.fail e) s))
  | counted (n : Nat) (hp : s.phase = .wait) (ht : s.timer = some n) :
      StepEffect s .tick (observe .tick { s with timer := some (n - 1) })
  | exited (hp : s.phase = .wait) (ht : s.timer = some 0) : StepEffect s .seq { s with phase := .readConv }
  | converted (a : DevAddr) (v : Variant) (g : Gain) (b0 b1 : Byte) (hp : s.phase = .readConv)
      (ha : s.devAddr = some a) (hv : s.variant = some v) (hg : s.activeGain = some g) :
      StepEffect s (.busRead (.ok b0 b1)) (enterRespond 0 0 (convert v g (joinBytes b0 b1))
        { memRead s.config.ptrConversion a (.ok b0 b1) s with rawSample := some (joinBytes b0 b1) })
  | readFailed (a : DevAddr) (e : Byte) (hp : s.phase = .readConv) (ha : s.devAddr = some a) :
      StepEffect s (.busRead (.fail e))
        (raiseError .busReadError (e.setWidth 16) (memRead s.config.ptrConversion a (.fail e) s))
  | returned (st : BitVec 4) (i : Word16) (v : BitVec 32) (hp : s.phase = .respond) (hst : s.rspStatus = some st)
      (hi : s.rspInfo = some i) (hv : s.rspValue = some v) :
      StepEffect s .take { s with phase := .idle, delivered := s.delivered ++ [⟨st, i, v⟩] }
  | reset : StepEffect s .reset { State.resetOf s.config with
      trace := s.trace, inputs := s.inputs, delivered := s.delivered, result := s.result }

theorem offerCommand_effect {w : CmdWord} (h : offerCommand (decodeCommand w) s = .next t) :
    StepEffect s (.offer w) t := by
  obtain rfl | ⟨hp, hc, sel, a, hw, rfl⟩ | ⟨hp, hc, c, v, hw, hv, rfl⟩ := offerCommand_cases h
  · exact .nothing _
  · obtain ⟨-, ht⟩ | ⟨-, ht⟩ | ⟨-, -, ht⟩ := performConstruct_cases sel a s <;> rw [ht]
    · exact .bound w sel a .std hp hc hw
    · exact .bound w sel a .hires hp hc hw
    · exact .rejected w sel a hp hc hw
  · obtain ⟨x, hb, ht⟩ | ⟨k, info, hb, ht⟩ := performRead_cases v c s <;> rw [ht]
    · exact .latched w c v x hp hc hw hv hb
    · exact .raised w c v k info hp hc hw hv hb

theorem execWriteCfg_effect {o : WriteOutcome} (hp : s.phase = .writeCfg) (h : execWriteCfg o s = .next t) :
    StepEffect s (.busWrite o) t := by
  cases o with
  | ok =>
    rw [execWriteCfg_ok hp] at h
    obtain ⟨w, hw, h⟩ := need_next h
    obtain ⟨a, ha, h⟩ := need_next h
    obtain ⟨r, hr, h⟩ := need_next h
    cases h
    exact .wrote a w r hp hw ha hr
  | fail e =>
    rw [execWriteCfg_fail e hp] at h
    obtain ⟨w, hw, h⟩ := need_next h
    obtain ⟨a, ha, h⟩ := need_next h
    cases h
    exact .writeFailed a w e hp hw ha

theorem execWaitTick_effect (h : execWaitTick s = .next t) : StepEffect s .tick t := by
  by_cases hp : s.phase = .wait
  · rw [execWaitTick_wait hp] at h
    obtain ⟨n, hn, h⟩ := need_next h
    cases h
    exact .counted n hp hn
  · cases (if_neg hp).symm.trans h
    exact .nothing _

theorem execWaitExit_effect (hp : s.phase = .wait) (h : execWaitExit s = .next t) : StepEffect s .seq t := by
  rw [execWaitExit_wait hp] at h
  obtain ⟨n, hn, h⟩ := need_next h
  cases h
  split
  · next h0 => exact .exited hp (h0 ▸ hn)
  · exact .nothing _

theorem execReadConv_effect {o : ReadOutcome} (hp : s.phase = .readConv) (h : execReadConv o s = .next t) :
    StepEffect s (.busRead o) t := by
  cases o with
  | ok b0 b1 =>
    rw [execReadConv_ok b0 b1 hp] at h
    obtain ⟨a, ha, h⟩ := need_next h
    obtain ⟨v, hv, h⟩ := need_next h
    obtain ⟨g, hg, h⟩ := need_next h
    cases h
    exact .converted a v g b0 b1 hp ha hv hg
  | fail e =>
    rw [execReadConv_fail e hp] at h
    obtain ⟨a, ha, h⟩ := need_next h
    cases h
    exact .readFailed a e hp ha

theorem execRespond_effect (hp : s.phase = .respond) (h : execRespond s = .next t) : StepEffect s .take t := by
  rw [execRespond_respond hp] at h
  obtain ⟨st, i, v, hst, hi, hv, rfl⟩ := returnToIdle_cases h
  exact .returned st i v hp hst hi hv

/-- A step with no event coming stands still; every other step has one of the effects. -/
theorem step_effect (h : step s = .next t) :
    (s.inputs = [] ∧ t = s) ∨ ∃ e rest, s.inputs = e :: rest ∧ StepEffect { s with inputs := rest } e t := by
  cases step_cases h with
  | quiet hi ht => exact .inl ⟨hi, ht⟩
  | passed e rest hi ht => exact .inr ⟨e, rest, hi, ht ▸ .nothing e⟩
  | offered w rest hi ht => exact .inr ⟨_, rest, hi, offerCommand_effect ht⟩
  | reset rest hi ht => cases ht; exact .inr ⟨_, rest, hi, .reset⟩
  | ticked rest hi ht => exact .inr ⟨_, rest, hi, execWaitTick_effect ht⟩
  | wrote o rest hi hp ht => exact .inr ⟨_, rest, hi, execWriteCfg_effect hp ht⟩
  | left rest hi hp ht => exact .inr ⟨_, rest, hi, execWaitExit_effect hp ht⟩
  | got o rest hi hp ht => exact .inr ⟨_, rest, hi, execReadConv_effect hp ht⟩
  | taken rest hi hp ht => exact .inr ⟨_, rest, hi, execRespond_effect hp ht⟩

end Sys2Proof.Machine
end

section
/-! PROOFS. The invariant of the block (10_state.md R34): each of its parts is kept by every effect of a step, and a
state that meets it reads no absent element (R35, 60_exceptions.md R189), so its step answers. -/

namespace Sys2Proof

open Sys2Proof.Machine

variable {s t : State} {e : Event}

/-! ### The invariant at reset -/

theorem blockInv_resetOf {cfg : Config} (h : tablesValid cfg = true) : BlockInv (State.resetOf cfg) :=
  ⟨h, ⟨rfl, rfl, fun _ => .inl rfl⟩, .inl ⟨rfl, rfl, rfl, rfl⟩, nofun, ⟨nofun, nofun⟩, nofun⟩

theorem adopted_tablesValid : tablesValid adopted = true := by decide

/-- Settles O57: at reset the phase is IDLE and no element holds a value. -/
theorem resetStateMeetsTheInvariant : Obligations.ResetStateMeetsTheInvariant :=
  ⟨fun _ h => blockInv_resetOf h, blockInv_resetOf adopted_tablesValid⟩

/-! ### The configuration and the binding -/

theorem Machine.StepEffect.config_eq (h : StepEffect s e t) : t.config = s.config := by
  cases h <;> rfl

theorem Bound.constructed_of_inFlight (h : Bound s) (hp : inFlight s.phase = true) : s.constructed = true := by
  obtain ⟨-, -, hu⟩ := h
  by_contra hc
  obtain hq | hq := hu (Bool.eq_false_of_not_eq_true hc) <;> rw [hq] at hp <;> cases hp

theorem Bound.exists_variant (h : Bound s) (hc : s.constructed = true) : ∃ v, s.variant = some v := by
  obtain ⟨hv, -, -⟩ := h
  exact Option.isSome_iff_exists.1 (hv.trans hc)

theorem Bound.exists_devAddr (h : Bound s) (hc : s.constructed = true) : ∃ a, s.devAddr = some a := by
  obtain ⟨-, ha, -⟩ := h
  exact Option.isSome_iff_exists.1 (ha.trans hc)

theorem Bound.of_eq (h : Bound s) (hc : t.constructed = s.constructed) (hv : t.variant = s.variant)
    (ha : t.devAddr = s.devAddr) (hp : t.phase = .idle ∨ t.phase = .respond ∨ s.constructed = true) : Bound t := by
  obtain ⟨hsv, hsa, -⟩ := h
  refine ⟨by rw [hv, hc, hsv], by rw [ha, hc, hsa], fun hu => ?_⟩
  obtain hp | hp | hp := hp
  · exact .inl hp
  · exact .inr hp
  · rw [hc, hp] at hu; cases hu

theorem Machine.StepEffect.keeps_bound (h : StepEffect s e t) (hb : Bound s) : Bound t := by
  cases h with
  | nothing => exact hb
  | bound | reset => exact ⟨rfl, rfl, by simp⟩
  | rejected | raised | writeFailed | converted | readFailed => exact hb.of_eq rfl rfl rfl (.inr (.inl rfl))
  | returned => exact hb.of_eq rfl rfl rfl (.inl rfl)
  | latched w c v x hp hc => exact hb.of_eq rfl rfl rfl (.inr (.inr hc))
  | wrote a w r hp | counted n hp | exited hp =>
    have hc := hb.constructed_of_inFlight (by rw [hp]; rfl)
    exact hb.of_eq rfl rfl rfl (.inr (.inr hc))

/-! ### The latches -/

theorem Latches.request_of_inFlight (h : Latches s) (hp : inFlight s.phase = true) : LatchedRequest s := by
  obtain ⟨-, -, -, hq⟩ | hr := h
  · rw [hq] at hp; cases hp
  · exact hr

/-- Only the accepting step enters the phases of a command in progress from outside them. -/
theorem Latches.of_eq (h : Latches s) (hcfg : t.config = s.config) (hv : t.variant = s.variant)
    (hg : t.activeGain = s.activeGain) (hr : t.reqRate = s.reqRate) (hw : t.cfgWord = s.cfgWord)
    (hp : inFlight s.phase = false → inFlight t.phase = false) : Latches t := by
  rw [Latches, LatchedRequest, hcfg, hv, hg, hr, hw]
  exact h.imp_left fun ⟨h1, h2, h3, h4⟩ => ⟨h1, h2, h3, hp h4⟩

/-- An unconstructed block has latched nothing, so a binding leaves no request of another variant behind. -/
theorem Latches.after_bindDriver (h : Latches s) (hb : Bound s) (hc : s.constructed = false) (v : Variant) (a : DevAddr) :
    Latches (enterRespond 0 0 0 (bindDriver v a s)) := by
  obtain ⟨hg, hr, hw, -⟩ | ⟨v', _, _, _, _, hv', -⟩ := h
  · exact .inl ⟨hg, hr, hw, rfl⟩
  · have hv : s.variant.isSome = false := hb.1.trans hc
    rw [hv'] at hv; cases hv

theorem Machine.StepEffect.keeps_latches (h : StepEffect s e t) (hb : Bound s) (hl : Latches s) : Latches t := by
  cases h with
  | nothing => exact hl
  | bound w sel a v hp hc => exact hl.after_bindDriver hb hc v a
  | rejected | raised | writeFailed | converted | readFailed | returned =>
    exact hl.of_eq rfl rfl rfl rfl rfl fun _ => rfl
  | latched w c v x hp hc hw hv hx => exact .inr ⟨v, _, _, _, x, hv, rfl, rfl, rfl, hx⟩
  | wrote a w r hp | counted n hp | exited hp => exact .inr (hl.request_of_inFlight (by rw [hp]; rfl))
  | reset => exact .inl ⟨rfl, rfl, rfl, rfl⟩

/-- The rate of a latched request is legal, so the timer can hold its delay (41_config_builder.md R105, R112). -/
theorem LatchedRequest.waitTicks_lt (h : LatchedRequest s) {r : Word16} (hr : s.reqRate = some r) :
    waitTicks s.config r < 2 ^ timerWidth s.config := by
  obtain ⟨v, sel, g, r', w, -, -, hr', -, hb⟩ := h
  cases hr.symm.trans hr'
  obtain ⟨fr, -, -, hfr, -⟩ := (build_word_iff s.config v sel g r w).1 hb
  have hm : r ∈ ratesIn s.config v := (lookup_isSome_iff _ r).1 (by rw [hfr]; rfl)
  exact Machine.waitTicks_lt s.config v r hm

/-! ### The timer and the settle delay -/

theorem Machine.StepEffect.keeps_timerFits (h : StepEffect s e t) (hf : TimerFits s) : TimerFits t := by
  cases h with
  | wrote a w r hp =>
    intro n hn
    cases hn
    exact Nat.mod_lt _ (Nat.two_pow_pos _)
  | counted n hp ht =>
    intro m hm
    cases hm
    exact (Nat.sub_le n 1).trans_lt (hf n ht)
  | reset => nofun
  | _ => exact hf

/-- A successful write starts the wait with no tick counted and the whole delay to come. -/
theorem settles_startWait {a : DevAddr} {w r : Word16} (hl : LatchedRequest s) (hw : s.cfgWord = some w)
    (ha : s.devAddr = some a) (hr : s.reqRate = some r) :
    Settles (startWait r (memWrite s.config.ptrConfig a w .ok s)) := by
  refine ⟨fun _ => ⟨s.trace, a, w, r, _, 0, ha, hw, hr, rfl, (List.append_nil _).symm, ?_⟩, nofun⟩
  rw [startWait_config, memWrite_config, Nat.mod_eq_of_lt (hl.waitTicks_lt hr), Nat.zero_add]

/-- A tick moves one tick from those to come to those counted. -/
theorem Settles.count {n : Nat} (h : Settles s) (hp : s.phase = .wait) (ht : s.timer = some n) :
    Settles (observe .tick { s with timer := some (n - 1) }) := by
  obtain ⟨pre, a, w, r, m, k, ha, hw, hr, hm, htr, hle⟩ := h.1 hp
  cases ht.symm.trans hm
  refine ⟨fun _ => ⟨pre, a, w, r, n - 1, k + 1, ha, hw, hr, rfl, ?_, ?_⟩, fun hq => ?_⟩
  · rw [WroteThenTicked, List.replicate_succ', ← List.append_assoc]
    exact congrArg (· ++ [BusEvent.tick]) htr
  · exact hle.trans (by omega)
  · cases hp.symm.trans hq

/-- At timer 0 no tick is to come: all of them have been counted. -/
theorem Settles.exit (h : Settles s) (hp : s.phase = .wait) (ht : s.timer = some 0) :
    Settles { s with phase := .readConv } := by
  obtain ⟨pre, a, w, r, m, k, ha, hw, hr, hm, htr, hle⟩ := h.1 hp
  cases ht.symm.trans hm
  exact ⟨nofun, fun _ => ⟨pre, a, w, r, k, ha, hw, hr, htr, hle⟩⟩

theorem Machine.StepEffect.keeps_settles (h : StepEffect s e t) (hl : Latches s) (hs : Settles s) : Settles t := by
  cases h with
  | nothing => exact hs
  | wrote a w r hp hw ha hr => exact settles_startWait (hl.request_of_inFlight (by rw [hp]; rfl)) hw ha hr
  | counted n hp ht => exact hs.count hp ht
  | exited hp ht => exact hs.exit hp ht
  | bound | rejected | latched | raised | writeFailed | converted | readFailed | returned | reset =>
    exact ⟨nofun, nofun⟩

/-! ### The response -/

theorem answered_enterRespond_ok (v : BitVec 32) : Answered (enterRespond 0 0 v s) :=
  fun _ => ⟨0, 0, v, rfl, rfl, rfl, by decide, fun h => absurd rfl h, fun _ => rfl⟩

theorem errorCode_toNat_le (k : ErrorKind) : (errorCode k).toNat ≤ 7 := by cases k <;> decide

theorem errorCode_ne_zero (k : ErrorKind) : errorCode k ≠ 0 := by cases k <;> decide

theorem answered_raiseError (k : ErrorKind) (info : Word16) : Answered (raiseError k info s) :=
  fun _ => ⟨errorCode k, info, 0, rfl, rfl, rfl, errorCode_toNat_le k, fun _ => rfl,
    fun h => absurd h (errorCode_ne_zero k)⟩

theorem Machine.StepEffect.keeps_answered (h : StepEffect s e t) (ha : Answered s) : Answered t := by
  cases h with
  | nothing => exact ha
  | bound | converted => exact answered_enterRespond_ok _
  | rejected | raised | writeFailed | readFailed => exact answered_raiseError _ _
  | counted n hp => exact fun hq => by cases hp.symm.trans hq
  | latched | wrote | exited | returned | reset => nofun

theorem Machine.StepEffect.keeps_blockInv (h : StepEffect s e t) (hi : BlockInv s) : BlockInv t := by
  obtain ⟨hv, hb, hl, hf, hs, ha⟩ := hi
  exact ⟨h.config_eq ▸ hv, h.keeps_bound hb, h.keeps_latches hb hl, h.keeps_timerFits hf, h.keeps_settles hl hs,
    h.keeps_answered ha⟩

/-! ### Progress -/

theorem BlockInv.offerCommand_answers (h : BlockInv s) (c : Command) : ∃ t, offerCommand c s = .next t := by
  obtain ⟨-, hb, -⟩ := h
  by_cases hr : cmdReady c s = true
  · rw [offerCommand, if_pos hr]
    cases c with
    | nop | construct => exact ⟨_, rfl⟩
    | read c =>
      obtain ⟨v, hv⟩ := hb.exists_variant ((cmdReady_iff _ s).1 hr).2
      exact ⟨performRead v c s, by rw [performCommand, hv, need_some]⟩
  · exact ⟨s, if_neg hr⟩

theorem BlockInv.execWriteCfg_answers (h : BlockInv s) (hp : s.phase = .writeCfg) (o : WriteOutcome) :
    ∃ t, execWriteCfg o s = .next t := by
  obtain ⟨-, hb, hl, -⟩ := h
  have hf : inFlight s.phase = true := by rw [hp]; rfl
  obtain ⟨a, ha⟩ := hb.exists_devAddr (hb.constructed_of_inFlight hf)
  obtain ⟨v, sel, g, r, w, -, -, hr, hw, -⟩ := hl.request_of_inFlight hf
  cases o with
  | ok => rw [execWriteCfg_ok hp, hw, ha, hr]; exact ⟨_, rfl⟩
  | fail x => rw [execWriteCfg_fail x hp, hw, ha]; exact ⟨_, rfl⟩

theorem BlockInv.exists_timer (h : BlockInv s) (hp : s.phase = .wait) : ∃ n, s.timer = some n := by
  obtain ⟨-, -, -, -, ⟨hw, -⟩, -⟩ := h
  obtain ⟨_, _, _, _, n, _, -, -, -, hn, -⟩ := hw hp
  exact ⟨n, hn⟩

theorem BlockInv.execWaitTick_answers (h : BlockInv s) : ∃ t, execWaitTick s = .next t := by
  by_cases hp : s.phase = .wait
  · obtain ⟨n, hn⟩ := h.exists_timer hp
    rw [execWaitTick_wait hp, hn]
    exact ⟨_, rfl⟩
  · exact ⟨s, if_neg hp⟩

theorem BlockInv.execWaitExit_answers (h : BlockInv s) (hp : s.phase = .wait) : ∃ t, execWaitExit s = .next t := by
  obtain ⟨n, hn⟩ := h.exists_timer hp
  rw [execWaitExit_wait hp, hn]
  exact ⟨_, rfl⟩

theorem BlockInv.execReadConv_answers (h : BlockInv s) (hp : s.phase = .readConv) (o : ReadOutcome) :
    ∃ t, execReadConv o s = .next t := by
  obtain ⟨-, hb, hl, -⟩ := h
  have hf : inFlight s.phase = true := by rw [hp]; rfl
  obtain ⟨a, ha⟩ := hb.exists_devAddr (hb.constructed_of_inFlight hf)
  obtain ⟨v, sel, g, r, w, hv, hg, -⟩ := hl.request_of_inFlight hf
  cases o with
  | ok b0 b1 => rw [execReadConv_ok b0 b1 hp, ha, hv, hg]; exact ⟨_, rfl⟩
  | fail x => rw [execReadConv_fail x hp, ha]; exact ⟨_, rfl⟩

theorem BlockInv.execRespond_answers (h : BlockInv s) (hp : s.phase = .respond) : ∃ t, execRespond s = .next t := by
  obtain ⟨-, -, -, -, -, ha⟩ := h
  obtain ⟨st, i, v, hst, hi, hv, -⟩ := ha hp
  rw [execRespond_respond hp, returnToIdle, hst, hi, hv]
  exact ⟨_, rfl⟩

/-- An event that one phase takes: outside it the event is passed over. -/
theorem step_answers_of_fetch {rest : List Event} {p : Phase} {i : Instr} (hin : s.inputs = e :: rest)
    (hf : fetch s e = if s.phase = p then .ok i else .error .notEnabled)
    (h : s.phase = p → ∃ t, exec i { s with inputs := rest } = .next t) : ∃ t, step s = .next t := by
  by_cases hp : s.phase = p
  · rw [step_of_fetch_ok hin (hf.trans (if_pos hp))]
    exact h hp
  · exact ⟨_, step_of_fetch_error hin (hf.trans (if_neg hp))⟩

theorem BlockInv.step_answers (h : BlockInv s) : ∃ t, step s = .next t := by
  cases hin : s.inputs with
  | nil => exact ⟨s, step_of_inputs_nil hin⟩
  | cons e rest =>
    have hi : BlockInv { s with inputs := rest } := h
    cases e with
    | offer w =>
      rw [step_of_fetch_ok hin (fetch_offer s w), exec_commandInstr]
      exact hi.offerCommand_answers _
    | tick =>
      rw [step_of_fetch_ok hin (rfl : fetch s .tick = .ok .waitTick)]
      exact hi.execWaitTick_answers
    | reset => exact ⟨_, step_of_fetch_ok hin rfl⟩
    | busWrite o => exact step_answers_of_fetch hin (fetch_busWrite s o) fun hp => hi.execWriteCfg_answers hp o
    | busRead o => exact step_answers_of_fetch hin (fetch_busRead s o) fun hp => hi.execReadConv_answers hp o
    | seq => exact step_answers_of_fetch hin (fetch_seq s) fun hp => hi.execWaitExit_answers hp
    | take => exact step_answers_of_fetch hin (fetch_take s) fun hp => hi.execRespond_answers hp

/-- The invariant does not look at the schedule, so it holds of the state an effect starts from. -/
theorem step_keeps_blockInv (h : step s = .next t) (hi : BlockInv s) : BlockInv t := by
  obtain ⟨-, rfl⟩ | ⟨e, rest, -, he⟩ := step_effect h
  · exact hi
  · exact he.keeps_blockInv hi

/-- Settles O58: the elements a step reads hold values, and each effect of a step keeps each part of the
invariant. -/
theorem everyStepKeepsTheInvariant : Obligations.EveryStepKeepsTheInvariant := by
  intro s hi
  obtain ⟨t, ht⟩ := hi.step_answers
  exact ⟨t, ht, step_keeps_blockInv ht hi⟩

end Sys2Proof
end

section
/-! PROOFS. The safety statements about every step, each a case split over its effect (42_bus_sequencer.md R133,
10_state.md R23 to R31, 41_config_builder.md R112, 44_orchestration.md R161). -/

namespace Sys2Proof.Machine

variable {s t : State} {e : Event}

/-! ### Changes of phase -/

theorem cmdReady_read {c : ReadCmd} (hp : s.phase = .idle) (hc : s.constructed = true) :
    cmdReady (.read c) s = true := (cmdReady_iff _ s).2 ⟨hp, hc⟩

theorem cmdReady_construct {sel : Byte} {a : DevAddr} (hp : s.phase = .idle) (hc : s.constructed = false) :
    cmdReady (.construct sel a) s = true := (cmdReady_iff _ s).2 ⟨hp, hc⟩

theorem allowedMove_reset (ht : t.phase = .idle) (hne : t.phase ≠ s.phase) : AllowedMove s t .reset := by
  rw [ht] at hne
  unfold AllowedMove
  rw [ht]
  cases hp : s.phase with
  | idle => exact absurd hp.symm hne
  | respond => exact .inr rfl
  | writeCfg | wait | readConv => rfl

theorem StepEffect.allowedMove (h : StepEffect s e t) (hne : t.phase ≠ s.phase) : AllowedMove s t e := by
  cases h with
  | nothing | counted => exact absurd rfl hne
  | reset => exact allowedMove_reset rfl hne
  | bound w sel a v hp hc hw | rejected w sel a hp hc hw =>
    have hr : cmdReady (decodeCommand w) s = true := hw ▸ cmdReady_construct hp hc
    simp only [AllowedMove, hp]
    exact ⟨w, rfl, hr, .inl ⟨sel, a, hw⟩⟩
  | latched w c v x hp hc hw hv hb =>
    have hr : cmdReady (decodeCommand w) s = true := hw ▸ cmdReady_read hp hc
    simp only [AllowedMove, hp]
    exact ⟨w, c, x, rfl, hr, hw, v, hv, hb⟩
  | raised w c v k info hp hc hw hv hb =>
    have hr : cmdReady (decodeCommand w) s = true := hw ▸ cmdReady_read hp hc
    simp only [AllowedMove, hp]
    exact ⟨w, rfl, hr, .inr ⟨c, k, info, hw, v, hv, hb⟩⟩
  | exited hp ht => simp [AllowedMove, hp, ht]
  | wrote a w r hp | writeFailed a w x hp | converted a v g b0 b1 hp | readFailed a x hp | returned st i v hp =>
    simp [AllowedMove, hp]

/-- Settles O50: each effect that changes the phase is a row of the table. -/
theorem phaseChangesOnlyAsTheTableSays : Obligations.PhaseChangesOnlyAsTheTableSays := by
  intro s t h hne
  obtain ⟨-, rfl⟩ | ⟨e, rest, hin, he⟩ := step_effect h
  · exact absurd rfl hne
  · exact ⟨e, rest, hin, he.allowedMove hne⟩

/-! ### The binding -/

/-- Only `RESET` and a construction, of an unconstructed block, write the binding. -/
theorem StepEffect.binding (h : StepEffect s e t) (hs : s.constructed = true) :
    e = .reset ∨ (t.constructed = true ∧ t.variant = s.variant ∧ t.devAddr = s.devAddr) := by
  cases h with
  | reset => exact .inl rfl
  | bound w sel a v hp hc => rw [hs] at hc; cases hc
  | _ => exact .inr ⟨hs, rfl, rfl⟩

/-- Settles O52: only a construction writes the binding, and nothing writes the configuration record. -/
theorem bindingIsKeptUntilReset : Obligations.BindingIsKeptUntilReset := by
  refine ⟨fun s t hc h => ?_, fun s t h => ?_⟩
  · obtain ⟨-, rfl⟩ | ⟨e, rest, hin, he⟩ := step_effect h
    · exact .inr ⟨hc, rfl, rfl⟩
    · obtain rfl | hk := he.binding hc
      · exact .inl ⟨rest, hin⟩
      · exact .inr hk
  · obtain ⟨-, rfl⟩ | ⟨e, rest, -, he⟩ := step_effect h
    · rfl
    · exact he.config_eq

/-! ### The latches -/

theorem StepEffect.latches (h : StepEffect s e t) :
    (t.activeGain = s.activeGain ∧ t.reqRate = s.reqRate ∧ t.cfgWord = s.cfgWord) ∨
      (s.phase = .idle ∧ t.phase = .writeCfg) ∨ e = .reset := by
  cases h with
  | latched w c v x hp => exact .inr (.inl ⟨hp, rfl⟩)
  | reset => exact .inr (.inr rfl)
  | _ => exact .inl ⟨rfl, rfl, rfl⟩

/-- Settles O53: only the accepting step of a read command and `RESET` write the latches. -/
theorem latchesChangeOnlyAtAcceptance : Obligations.LatchesChangeOnlyAtAcceptance := by
  intro s t h
  obtain ⟨-, rfl⟩ | ⟨e, rest, hin, he⟩ := step_effect h
  · exact .inl ⟨rfl, rfl, rfl⟩
  · refine he.latches.imp_right (Or.imp_right ?_)
    rintro rfl
    exact ⟨rest, hin⟩

/-! ### The response -/

theorem visibleResponse_eq_some_iff {x : Response} : visibleResponse s = some x ↔
    s.phase = .respond ∧ s.rspStatus = some x.status ∧ s.rspInfo = some x.info ∧ s.rspValue = some x.value := by
  by_cases hp : s.phase = .respond
  · rw [visibleResponse, if_pos (show rspValid s = true from decide_eq_true hp)]
    split
    next st i v hst hi hv =>
      rw [hst, hi, hv]
      constructor
      · rintro ⟨⟩
        exact ⟨hp, rfl, rfl, rfl⟩
      · rintro ⟨-, ⟨⟩, ⟨⟩, ⟨⟩⟩
        rfl
    next hno =>
      constructor
      · nofun
      · rintro ⟨-, hst, hi, hv⟩
        exact (hno _ _ _ hst hi hv).elim
  · simp [visibleResponse, rspValid, hp]

/-- Settles O41: what HOST sees is what the return hands over. -/
theorem respondDeliversTheTriple : Obligations.RespondDeliversTheTriple := by
  intro s x hp hx
  obtain ⟨-, hst, hi, hv⟩ := visibleResponse_eq_some_iff.1 hx
  refine (execRespond_respond hp).trans ?_
  rw [returnToIdle, hst, hi, hv]
  rfl

theorem StepEffect.response (h : StepEffect s e t) :
    (t.rspStatus = s.rspStatus ∧ t.rspInfo = s.rspInfo ∧ t.rspValue = s.rspValue) ∨
      (s.phase ≠ .respond ∧ t.phase = .respond) ∨ e = .reset := by
  cases h with
  | bound w sel a v hp | rejected w sel a hp | raised w c v k info hp | writeFailed a w x hp
  | converted a v g b0 b1 hp | readFailed a x hp => exact .inr (.inl ⟨by simp [hp], rfl⟩)
  | reset => exact .inr (.inr rfl)
  | nothing | latched | wrote | counted | exited | returned => exact .inl ⟨rfl, rfl, rfl⟩

theorem StepEffect.delivered (h : StepEffect s e t) :
    t.delivered = s.delivered ∨
      (s.phase = .respond ∧ t.phase = .idle ∧ ∃ x, visibleResponse s = some x ∧ t.delivered = s.delivered ++ [x]) := by
  cases h with
  | returned st i v hp hst hi hv =>
    exact .inr ⟨hp, rfl, ⟨st, i, v⟩, visibleResponse_eq_some_iff.2 ⟨hp, hst, hi, hv⟩, rfl⟩
  | _ => exact .inl rfl

/-- Settles O54: the responding steps alone write the registers, and the return alone delivers. -/
theorem responsesAreStableAndDeliveredOnce : Obligations.ResponsesAreStableAndDeliveredOnce := by
  intro s t h
  obtain ⟨-, rfl⟩ | ⟨e, rest, hin, he⟩ := step_effect h
  · exact ⟨.inl ⟨rfl, rfl, rfl⟩, .inl rfl⟩
  · refine ⟨he.response.imp_right (Or.imp_right ?_), he.delivered⟩
    rintro rfl
    exact ⟨rest, hin⟩

end Sys2Proof.Machine
end

section
/-! PROOFS. Model faults (10_state.md R35, 60_exceptions.md R189): nothing is refused, a fault names an element that
holds no value, and reading such an element faults. -/

namespace Sys2Proof.Machine

variable {s : State}

/-! ### A fault names an absent element -/

/-- The element holds no value; a response holds none where one of its three registers does. -/
def Absent (s : State) (e : Element) : Prop :=
  match e with
  | .variant => s.variant = none
  | .devAddr => s.devAddr = none
  | .activeGain => s.activeGain = none
  | .reqRate => s.reqRate = none
  | .cfgWord => s.cfgWord = none
  | .timer => s.timer = none
  | .response => s.rspStatus = none ∨ s.rspInfo = none ∨ s.rspValue = none

/-- A result in the state `s` that is no refusal and faults on absent elements alone. -/
def FaultsOnAbsent (s : State) (r : StepResult) : Prop :=
  match r with
  | .next _ => True
  | .fault (.noValue e) => Absent s e
  | .refused _ => False

theorem faultsOnAbsent_next (s t : State) : FaultsOnAbsent s (.next t) := trivial

/-- Faults come from `need` alone, which reads the element it names. -/
theorem faultsOnAbsent_need {α : Type} {e : Element} {x : Option α} {use : α → StepResult}
    (hx : x = none → Absent s e) (hu : ∀ a, FaultsOnAbsent s (use a)) : FaultsOnAbsent s (need e x use) := by
  cases x with
  | none => exact hx rfl
  | some a => exact hu a

theorem offerCommand_faultsOnAbsent (c : Command) (s : State) : FaultsOnAbsent s (offerCommand c s) := by
  unfold offerCommand
  split
  · cases c with
    | nop | construct => exact faultsOnAbsent_next s _
    | read c => exact faultsOnAbsent_need id fun _ => faultsOnAbsent_next s _
  · exact faultsOnAbsent_next s _

theorem execWriteCfg_faultsOnAbsent (o : WriteOutcome) (s : State) : FaultsOnAbsent s (execWriteCfg o s) := by
  by_cases hp : s.phase = .writeCfg
  · cases o with
    | ok =>
      rw [execWriteCfg_ok hp]
      exact faultsOnAbsent_need id fun _ => faultsOnAbsent_need id fun _ => faultsOnAbsent_need id fun _ =>
        faultsOnAbsent_next s _
    | fail e =>
      rw [execWriteCfg_fail e hp]
      exact faultsOnAbsent_need id fun _ => faultsOnAbsent_need id fun _ => faultsOnAbsent_next s _
  · rw [execWriteCfg, if_neg hp]
    exact faultsOnAbsent_next s _

theorem execWaitTick_faultsOnAbsent (s : State) : FaultsOnAbsent s (execWaitTick s) := by
  unfold execWaitTick
  split
  · exact faultsOnAbsent_need id fun _ => faultsOnAbsent_next s _
  · exact faultsOnAbsent_next s _

theorem execWaitExit_faultsOnAbsent (s : State) : FaultsOnAbsent s (execWaitExit s) := by
  unfold execWaitExit
  split
  · exact faultsOnAbsent_need id fun _ => faultsOnAbsent_next s _
  · exact faultsOnAbsent_next s _

theorem execReadConv_faultsOnAbsent (o : ReadOutcome) (s : State) : FaultsOnAbsent s (execReadConv o s) := by
  by_cases hp : s.phase = .readConv
  · cases o with
    | ok b0 b1 =>
      rw [execReadConv_ok b0 b1 hp]
      exact faultsOnAbsent_need id fun _ => faultsOnAbsent_need id fun _ => faultsOnAbsent_need id fun _ =>
        faultsOnAbsent_next s _
    | fail e =>
      rw [execReadConv_fail e hp]
      exact faultsOnAbsent_need id fun _ => faultsOnAbsent_next s _
  · rw [execReadConv, if_neg hp]
    exact faultsOnAbsent_next s _

theorem execRespond_faultsOnAbsent (s : State) : FaultsOnAbsent s (execRespond s) := by
  unfold execRespond
  split
  · exact faultsOnAbsent_need .inl fun _ => faultsOnAbsent_need (.inr ∘ .inl) fun _ =>
      faultsOnAbsent_need (.inr ∘ .inr) fun _ => faultsOnAbsent_next s _
  · exact faultsOnAbsent_next s _

theorem execDefaulted_faultsOnAbsent (c : ReadCmd) (s : State) : FaultsOnAbsent s (execDefaulted c s) := by
  unfold execDefaulted
  split
  · exact faultsOnAbsent_next s _
  · exact faultsOnAbsent_need id fun _ => faultsOnAbsent_next s _

theorem exec_faultsOnAbsent (i : Instr) (s : State) : FaultsOnAbsent s (exec i s) := by
  cases i with
  | nop | construct | readSe | readDiff | accept => exact offerCommand_faultsOnAbsent _ s
  | writeCfg o => exact execWriteCfg_faultsOnAbsent o s
  | waitTick => exact execWaitTick_faultsOnAbsent s
  | waitExit => exact execWaitExit_faultsOnAbsent s
  | readConv o => exact execReadConv_faultsOnAbsent o s
  | respond => exact execRespond_faultsOnAbsent s
  | defaulted c => exact execDefaulted_faultsOnAbsent c s
  | w3 | r1plus2 | lookupRate | build => exact faultsOnAbsent_need id fun _ => faultsOnAbsent_next s _
  | cfgWord | lookupGain | resolveSe | resolveDiff | waitTicks | raw16 | shift12 | convert | reset =>
    exact faultsOnAbsent_next s _

theorem exec_ne_refused (i : Instr) (s : State) (x : Refusal) : exec i s ≠ .refused x := by
  intro h
  have hs := exec_faultsOnAbsent i s
  rw [h] at hs
  exact hs

theorem absent_of_exec_fault {i : Instr} {e : Element} (h : exec i s = .fault (.noValue e)) : Absent s e := by
  have hs := exec_faultsOnAbsent i s
  rw [h] at hs
  exact hs

/-- A step runs an instruction or passes an event over, so it refuses nothing either. -/
theorem step_ne_refused (s : State) (x : Refusal) : step s ≠ .refused x := by
  cases hin : s.inputs with
  | nil => rw [step_of_inputs_nil hin]; nofun
  | cons e rest =>
    cases hf : fetch s e with
    | ok i => rw [step_of_fetch_ok hin hf]; exact exec_ne_refused i _ x
    | error y => rw [step_of_fetch_error hin hf]; nofun

/-- Settles O48: `need` alone faults, naming the element it found absent, and nothing refuses. -/
theorem nothingIsRefusedAndFaultsNameAbsentElements :
    Obligations.NothingIsRefusedAndFaultsNameAbsentElements := by
  refine ⟨exec_ne_refused, step_ne_refused, fun i s e h => ?_⟩
  have ha := absent_of_exec_fault h
  refine ⟨?_, ?_, ?_, ?_, ?_, ?_, ?_⟩ <;> rintro rfl <;> exact ha

/-! ### Reading an absent element faults -/

theorem execDefaulted_of_variant_none {c : ReadCmd} (hr : rateGiven c = none) (hv : s.variant = none) :
    execDefaulted c s = .fault (.noValue .variant) := by
  rw [execDefaulted, hr, hv]
  rfl

theorem offerCommand_read_of_variant_none {c : ReadCmd} (hp : s.phase = .idle) (hc : s.constructed = true)
    (hv : s.variant = none) : offerCommand (.read c) s = .fault (.noValue .variant) := by
  rw [offerCommand, if_pos (cmdReady_read hp hc), performCommand, hv, need_none]

theorem execWriteCfg_of_cfgWord_none (o : WriteOutcome) (hp : s.phase = .writeCfg) (hw : s.cfgWord = none) :
    execWriteCfg o s = .fault (.noValue .cfgWord) := by
  rw [execWriteCfg, if_pos hp, hw, need_none]

theorem execWriteCfg_of_devAddr_none (o : WriteOutcome) (hp : s.phase = .writeCfg) (hw : s.cfgWord.isSome = true)
    (ha : s.devAddr = none) : execWriteCfg o s = .fault (.noValue .devAddr) := by
  obtain ⟨w, hw⟩ := Option.isSome_iff_exists.1 hw
  rw [execWriteCfg, if_pos hp, hw, need_some, ha, need_none]

theorem execWriteCfg_ok_of_reqRate_none (hp : s.phase = .writeCfg) (hw : s.cfgWord.isSome = true)
    (ha : s.devAddr.isSome = true) (hr : s.reqRate = none) :
    execWriteCfg .ok s = .fault (.noValue .reqRate) := by
  obtain ⟨w, hw⟩ := Option.isSome_iff_exists.1 hw
  obtain ⟨a, ha⟩ := Option.isSome_iff_exists.1 ha
  rw [execWriteCfg_ok hp, hw, ha, hr, need_some, need_some, need_none]

theorem execWaitTick_of_timer_none (hp : s.phase = .wait) (ht : s.timer = none) :
    execWaitTick s = .fault (.noValue .timer) := by
  rw [execWaitTick_wait hp, ht, need_none]

theorem execWaitExit_of_timer_none (hp : s.phase = .wait) (ht : s.timer = none) :
    execWaitExit s = .fault (.noValue .timer) := by
  rw [execWaitExit_wait hp, ht, need_none]

theorem execReadConv_of_devAddr_none (o : ReadOutcome) (hp : s.phase = .readConv) (ha : s.devAddr = none) :
    execReadConv o s = .fault (.noValue .devAddr) := by
  rw [execReadConv, if_pos hp, ha, need_none]

theorem execReadConv_ok_of_variant_none (b0 b1 : Byte) (hp : s.phase = .readConv) (ha : s.devAddr.isSome = true)
    (hv : s.variant = none) : execReadConv (.ok b0 b1) s = .fault (.noValue .variant) := by
  obtain ⟨a, ha⟩ := Option.isSome_iff_exists.1 ha
  rw [execReadConv_ok b0 b1 hp, ha, hv, need_some, need_none]

theorem execReadConv_ok_of_activeGain_none (b0 b1 : Byte) (hp : s.phase = .readConv) (ha : s.devAddr.isSome = true)
    (hv : s.variant.isSome = true) (hg : s.activeGain = none) :
    execReadConv (.ok b0 b1) s = .fault (.noValue .activeGain) := by
  obtain ⟨a, ha⟩ := Option.isSome_iff_exists.1 ha
  obtain ⟨v, hv⟩ := Option.isSome_iff_exists.1 hv
  rw [execReadConv_ok b0 b1 hp, ha, hv, hg, need_some, need_some, need_none]

/-- Whichever of the three registers holds no value, the fault names the response. -/
theorem returnToIdle_of_response_none (h : s.rspStatus = none ∨ s.rspInfo = none ∨ s.rspValue = none) :
    returnToIdle s = .fault (.noValue .response) := by
  unfold returnToIdle
  cases hst : s.rspStatus with
  | none => rfl
  | some st =>
    cases hi : s.rspInfo with
    | none => rfl
    | some i =>
      have hv : s.rspValue = none := by simpa [hst, hi] using h
      rw [hv, need_some, need_some, need_none]

/-- Settles O49: each row reads through `need`, which faults on an absent element. -/
theorem readingAnAbsentElementFaults : Obligations.ReadingAnAbsentElementFaults := by
  refine ⟨fun w r s hv => ?_, fun sel g r s hv => ?_,
    fun ch g s hv => execDefaulted_of_variant_none (c := .se ch g none) rfl hv,
    fun p g s hv => execDefaulted_of_variant_none (c := .diff p g none) rfl hv,
    fun w c s hv hp hc hw => ?_,
    fun o s hp hw => execWriteCfg_of_cfgWord_none o hp hw,
    fun o s hp hw ha => execWriteCfg_of_devAddr_none o hp hw ha,
    fun s hp hw ha hr => execWriteCfg_ok_of_reqRate_none hp hw ha hr,
    fun s hp ht => ⟨execWaitTick_of_timer_none hp ht, execWaitExit_of_timer_none hp ht⟩,
    fun o s hp ha => execReadConv_of_devAddr_none o hp ha,
    fun b0 b1 s hp ha hv => execReadConv_ok_of_variant_none b0 b1 hp ha hv,
    fun b0 b1 s hp ha hv hg => execReadConv_ok_of_activeGain_none b0 b1 hp ha hv hg,
    fun s hp h => (execRespond_respond hp).trans (returnToIdle_of_response_none h),
    fun word o s ha => ?_, fun o s ha => ?_⟩
  · rw [exec, execLookupRate, hv, need_none]
  · rw [exec, execBuild, hv, need_none]
  · rw [exec, execAccept, hw, offerCommand_read_of_variant_none hp hc hv]
  · rw [exec, execW3, ha, need_none]
  · rw [exec, execR1plus2, ha, need_none]

end Sys2Proof.Machine
end

section
/-! PROOFS. The bus traffic (20_memory.md R45 to R54): what a step appends to the trace, the two bus steps answered ok,
and the two frames on their own. -/

namespace Sys2Proof.Machine

variable {s t : State} {e : Event}

/-! ### What a step appends to the trace -/

theorem StepEffect.trace (h : StepEffect s e t) :
    t.trace = s.trace ∨
    (s.phase = .writeCfg ∧ ∃ a w o, s.devAddr = some a ∧ s.cfgWord = some w ∧
      t.trace = s.trace ++ [.write a [s.config.ptrConfig, hiByte w, loByte w] o]) ∨
    (s.phase = .wait ∧ t.trace = s.trace ++ [.tick]) ∨
    (s.phase = .readConv ∧ ∃ a o, s.devAddr = some a ∧
      t.trace = s.trace ++ [.read a [s.config.ptrConversion] 2 o]) := by
  cases h with
  | wrote a w r hp hw ha | writeFailed a w x hp hw ha => exact .inr (.inl ⟨hp, a, w, _, ha, hw, rfl⟩)
  | counted n hp => exact .inr (.inr (.inl ⟨hp, rfl⟩))
  | converted a v g b0 b1 hp ha | readFailed a x hp ha => exact .inr (.inr (.inr ⟨hp, a, _, ha, rfl⟩))
  | nothing | bound | rejected | latched | raised | exited | returned | reset => exact .inl rfl

/-- Settles O51: the two bus steps and the tick in `WAIT` are the effects that write the trace, one event each. -/
theorem busTrafficComesFromItsPhases : Obligations.BusTrafficComesFromItsPhases := by
  intro s t h
  obtain ⟨-, rfl⟩ | ⟨e, rest, -, he⟩ := step_effect h
  · exact .inl rfl
  · exact he.trace

/-! ### The bus steps answered ok -/

theorem execWriteCfg_ok_of_some {w r : Word16} {a : DevAddr} (hp : s.phase = .writeCfg) (hw : s.cfgWord = some w)
    (ha : s.devAddr = some a) (hr : s.reqRate = some r) :
    execWriteCfg .ok s = .next (startWait r (memWrite s.config.ptrConfig a w .ok s)) := by
  rw [execWriteCfg_ok hp, hw, ha, hr, need_some, need_some, need_some]

/-- Settles O35: the step's equation in its phase, and a legal rate's delay fits the timer. -/
theorem writeCfgOkStartsTheWait : Obligations.WriteCfgOkStartsTheWait :=
  fun s _ r _ hp hw ha hr => ⟨execWriteCfg_ok_of_some hp hw ha hr,
    fun v hv => Nat.mod_eq_of_lt (waitTicks_lt s.config v r hv), waitTicks_of_ne_zero s.config r⟩

theorem execReadConv_ok_of_some {v : Variant} {g : Gain} {a : DevAddr} (b0 b1 : Byte) (hp : s.phase = .readConv)
    (hv : s.variant = some v) (hg : s.activeGain = some g) (ha : s.devAddr = some a) :
    execReadConv (.ok b0 b1) s = .next (enterRespond 0 0 (convert v g (joinBytes b0 b1))
      { memRead s.config.ptrConversion a (.ok b0 b1) s with rawSample := some (joinBytes b0 b1) }) := by
  rw [execReadConv_ok b0 b1 hp, ha, hv, hg, need_some, need_some, need_some]

theorem joinBytes_eq_ofNat (b0 b1 : Byte) : joinBytes b0 b1 = BitVec.ofNat 16 (256 * b0.toNat + b1.toNat) := by
  rw [← joinBytes_toNat, BitVec.ofNat_toNat, BitVec.setWidth_eq]

/-- Settles O39: the step's equation in its phase, the two bytes joined being the big-endian number. -/
theorem readConvOkAnswersTheConvertedSample : Obligations.ReadConvOkAnswersTheConvertedSample := by
  intro s v g a b0 b1 hp hv hg ha
  rw [← joinBytes_eq_ofNat]
  exact execReadConv_ok_of_some b0 b1 hp hv hg ha

/-! ### The frames on their own -/

theorem hiByte_eq_ofNat (w : Word16) : hiByte w = BitVec.ofNat 8 (w.toNat / 256) := by
  apply BitVec.eq_of_toNat_eq
  rw [hiByte, BitVec.extractLsb'_toNat, BitVec.toNat_ofNat, Nat.shiftRight_eq_div_pow]

theorem loByte_eq_ofNat (w : Word16) : loByte w = BitVec.ofNat 8 w.toNat := by
  apply BitVec.eq_of_toNat_eq
  rw [loByte, BitVec.extractLsb'_toNat, BitVec.toNat_ofNat, Nat.shiftRight_zero]

theorem execW3_of_some {a : DevAddr} (word : Word16) (o : WriteOutcome) (ha : s.devAddr = some a) :
    execW3 word o s = .next (answer (.wrote o) (memWrite s.config.ptrConfig a word o s)) := by
  rw [execW3, ha, need_some]

/-- Settles O44: the row is the bus primitive at the bound address, which sends the pointer and the word's two bytes. -/
theorem frameW3IsOneWriteTransaction : Obligations.FrameW3IsOneWriteTransaction := by
  intro word o a s ha
  rw [← hiByte_eq_ofNat, ← loByte_eq_ofNat]
  exact execW3_of_some word o ha

theorem execR1plus2_of_some {a : DevAddr} (o : ReadOutcome) (ha : s.devAddr = some a) :
    execR1plus2 o s = .next (answer (.got o) (memRead s.config.ptrConversion a o s)) := by
  rw [execR1plus2, ha, need_some]

/-- Settles O45: the row is the bus primitive at the bound address, which sends the pointer alone and reads two bytes. -/
theorem frameR1plus2IsOneReadTransaction : Obligations.FrameR1plus2IsOneReadTransaction :=
  fun o _ _ ha => execR1plus2_of_some o ha

end Sys2Proof.Machine
end

section
/-! PROOFS. Encode, then decode (30_encoding.md R65 to R73, R77): a field packed at its place is read back from it, format
by format. -/

namespace Sys2Proof

/-! ### Fields at their places -/

theorem getLsbD_placeAt {n m : Nat} (x : BitVec n) (lo i : Nat) :
    (placeAt x lo : BitVec m).getLsbD i = (decide (i < m) && decide (lo ≤ i) && x.getLsbD (i - lo)) := by
  rw [placeAt, BitVec.getLsbD_shiftLeft, BitVec.getLsbD_setWidth]
  by_cases hi : i < m
  · simp [show i - lo < m by omega, ← decide_not]
  · simp [hi]

@[simp] theorem getElem_placeAt {n m : Nat} (x : BitVec n) (lo i : Nat) (hi : i < m) :
    (placeAt x lo : BitVec m)[i] = (decide (lo ≤ i) && x.getLsbD (i - lo)) := by
  rw [← BitVec.getLsbD_eq_getElem, getLsbD_placeAt, decide_eq_true hi, Bool.true_and]

/-- A field that fits is read back from its place. -/
@[simp] theorem extractLsb'_placeAt {n m lo : Nat} (x : BitVec n) (h : lo + n ≤ m) :
    (placeAt x lo : BitVec m).extractLsb' lo n = x := by
  apply BitVec.eq_of_getLsbD_eq
  intro i hi
  have hm : lo + i < m := by omega
  simp [hi, hm]

/-- A field leaves every place beside its own 0. -/
@[simp] theorem extractLsb'_placeAt_of_disjoint {n m lo lo' n' : Nat} (x : BitVec n)
    (h : lo' + n' ≤ lo ∨ lo + n ≤ lo') : (placeAt x lo : BitVec m).extractLsb' lo' n' = 0#n' := by
  apply BitVec.eq_of_getLsbD_eq
  intro i hi
  rw [BitVec.getLsbD_extractLsb', getLsbD_placeAt]
  obtain h | h := h
  · simp [show ¬ lo ≤ lo' + i by omega]
  · simp [BitVec.getLsbD_of_ge x (lo' + i - lo) (by omega)]

/-! ### The command word -/

section PackCommand

variable (op : BitVec 2) (x y z : Bool) (a b : Byte) (g r : Word16)

@[simp] theorem cmdOp_packCommand : cmdOp (packCommand op x y z a b g r) = op := by
  simp [cmdOp, packCommand, BitVec.extractLsb'_or]

@[simp] theorem cmdHasSel_packCommand : cmdHasSel (packCommand op x y z a b g r) = x := by
  simp [cmdHasSel, packCommand]

@[simp] theorem cmdHasGain_packCommand : cmdHasGain (packCommand op x y z a b g r) = y := by
  simp [cmdHasGain, packCommand]

@[simp] theorem cmdHasRate_packCommand : cmdHasRate (packCommand op x y z a b g r) = z := by
  simp [cmdHasRate, packCommand]

@[simp] theorem cmdA_packCommand : cmdA (packCommand op x y z a b g r) = a := by
  simp [cmdA, packCommand, BitVec.extractLsb'_or]

@[simp] theorem cmdB_packCommand : cmdB (packCommand op x y z a b g r) = b := by
  simp [cmdB, packCommand, BitVec.extractLsb'_or]

@[simp] theorem cmdGain_packCommand : cmdGain (packCommand op x y z a b g r) = g := by
  simp [cmdGain, packCommand, BitVec.extractLsb'_or]

@[simp] theorem cmdRate_packCommand : cmdRate (packCommand op x y z a b g r) = r := by
  simp [cmdRate, packCommand, BitVec.extractLsb'_or]

end PackCommand

/-- The address is the low seven bits of the second operand byte (30_encoding.md R67). -/
theorem cmdAddr_eq (w : CmdWord) : cmdAddr w = (cmdB w).setWidth 7 := by
  rw [cmdAddr, cmdB, BitVec.setWidth_extractLsb'_of_le (by decide)]

/-- An operand and its presence bit give the operand back (30_encoding.md R75). -/
@[simp] theorem presentIf_isSome_getD {α : Type} (x : Option α) (d : α) : presentIf x.isSome (x.getD d) = x := by
  cases x <;> rfl

theorem decodeCommand_encodeCommand (c : Command) : decodeCommand (encodeCommand c) = c := by
  match c with
  | .nop => simp [encodeCommand, decodeCommand]
  | .construct v a => simp [encodeCommand, decodeCommand, cmdAddr_eq]
  | .read (.se ch g r) => simp [encodeCommand, decodeCommand]
  | .read (.diff p g r) => simp [encodeCommand, decodeCommand]

theorem decode_encodeCommand (cfg : Config) (c : Command) :
    decode cfg (.cmd64 (encodeCommand c)) = .ok (commandInstr c) := by
  rw [decode, decodeCommand_encodeCommand]

/-! ### The frame and the configuration word -/

/-- Frame `W3` is read back, the pointer as its first byte (30_encoding.md R73). -/
theorem decodeFrame24_placeAt (cfg : Config) (word : Word16) (o : WriteOutcome) :
    decodeFrame24 cfg (placeAt cfg.ptrConfig 16 ||| placeAt word 0) o = .ok (.w3 word o) := by
  simp [decodeFrame24, BitVec.extractLsb'_or]

theorem decodeFrame8_ptrConversion (cfg : Config) (o : ReadOutcome) :
    decodeFrame8 cfg cfg.ptrConversion o = .ok (.r1plus2 o) := if_pos rfl

section ComposeCfgWord

variable (ch gain rate : BitVec 3)

@[simp] theorem composeCfgWord_channel : (composeCfgWord ch gain rate).extractLsb' 12 3 = ch := by
  simp [composeCfgWord, BitVec.extractLsb'_or]

@[simp] theorem composeCfgWord_gain : (composeCfgWord ch gain rate).extractLsb' 9 3 = gain := by
  simp [composeCfgWord, BitVec.extractLsb'_or]

@[simp] theorem composeCfgWord_rate : (composeCfgWord ch gain rate).extractLsb' 5 3 = rate := by
  simp [composeCfgWord, BitVec.extractLsb'_or]

/-- A composed word has the fixed bits of its format (30_encoding.md R79). -/
@[simp] theorem composeCfgWord_fixedBits : composeCfgWord ch gain rate &&& 0x811F#16 = 0x8103#16 := by
  obtain ⟨w, hw, hfixed⟩ := Laws.FixedBits.cfgWord ch gain rate
  cases hw
  exact hfixed

theorem decodeCfg16_composeCfgWord (hgain : gain ≤ 5#3) :
    decodeCfg16 (composeCfgWord ch gain rate) = .ok (.cfgWord ch gain rate) := by
  simp [decodeCfg16, hgain]

end ComposeCfgWord

/-! ### Every encoded instruction -/

/-- Settles O2, format by format; well-formedness is needed for the gain code of a configuration word alone. -/
theorem encodeThenDecode : Obligations.EncodeThenDecode := by
  intro cfg i x hwf hx
  cases i with
  | nop => cases hx; exact decode_encodeCommand cfg .nop
  | construct v a => cases hx; exact decode_encodeCommand cfg (.construct v a)
  | readSe ch g r => cases hx; exact decode_encodeCommand cfg (.read (.se ch g r))
  | readDiff p g r => cases hx; exact decode_encodeCommand cfg (.read (.diff p g r))
  | w3 word o => cases hx; exact decodeFrame24_placeAt cfg word o
  | r1plus2 o => cases hx; exact decodeFrame8_ptrConversion cfg o
  | cfgWord ch gain rate => cases hx; exact decodeCfg16_composeCfgWord ch gain rate (of_decide_eq_true hwf)
  | accept | writeCfg | waitTick | waitExit | readConv | respond => cases hx; rfl
  | lookupRate | lookupGain | resolveSe | resolveDiff | build | defaulted | waitTicks | raw16 | shift12 | convert | reset =>
    cases hx

end Sys2Proof
end

section
/-! PROOFS. Bits a command's format does not examine (30_encoding.md R67 to R69, R75, R78). -/

namespace Sys2Proof

/-! ### Every word is a well-formed command -/

theorem commandInstr_wf (c : Command) : (commandInstr c).wf = true := by
  match c with
  | .nop => rfl
  | .construct _ _ => rfl
  | .read (.se _ _ _) => rfl
  | .read (.diff _ _ _) => rfl

/-! ### Words that agree under a mask -/

section Masked

variable {n : Nat} {w w' m : BitVec n}

/-- Words that agree under a mask agree on a field the mask covers. -/
theorem extractLsb'_eq_of_and_eq {lo k : Nat} (h : w &&& m = w' &&& m)
    (hm : m.extractLsb' lo k = BitVec.allOnes k) : w.extractLsb' lo k = w'.extractLsb' lo k := by
  have he := congrArg (BitVec.extractLsb' lo k) h
  simpa only [BitVec.extractLsb'_and, hm, BitVec.and_allOnes] using he

/-- Words that agree under a mask agree on a bit the mask covers. -/
theorem getLsbD_eq_of_and_eq {i : Nat} (h : w &&& m = w' &&& m) (hm : m.getLsbD i = true) :
    w.getLsbD i = w'.getLsbD i := by
  have he := congrArg (·.getLsbD i) h
  simpa only [BitVec.getLsbD_and, hm, Bool.and_true] using he

end Masked

/-! ### What each format examines -/

/-- An operand is the same where its presence bit is, and where the operand matters if present (30_encoding.md R75). -/
theorem presentIf_congr {α : Type} {p p' : Bool} {x x' : α} (hp : p = p') (hx : p = true → x = x') :
    presentIf p x = presentIf p' x' := by
  subst hp
  cases p with
  | false => rfl
  | true => rw [hx rfl]

/-! ### What each format examines -/

section Examined

variable {w w' : CmdWord} (h : w &&& examinedBits w = w' &&& examinedBits w)
include h

theorem cmdOp_eq_of_examined : cmdOp w = cmdOp w' := by
  refine extractLsb'_eq_of_and_eq h ?_
  unfold examinedBits
  repeat' split
  all_goals decide

/-! CONSTRUCT (30_encoding.md R67). -/

theorem construct_operands_eq_of_examined (ho : cmdOp w = 1) : cmdA w = cmdA w' ∧ cmdAddr w = cmdAddr w' := by
  have hm : examinedBits w = 0xC000FF7F00000000#64 := by simp [examinedBits, ho]
  rw [hm] at h
  exact ⟨extractLsb'_eq_of_and_eq h (by decide), extractLsb'_eq_of_and_eq h (by decide)⟩

/-! The read commands (30_encoding.md R68, R69). -/

section Read

variable (h0 : cmdOp w ≠ 0) (h1 : cmdOp w ≠ 1)
include h0 h1

theorem presenceBits_eq_of_examined :
    cmdHasSel w = cmdHasSel w' ∧ cmdHasGain w = cmdHasGain w' ∧ cmdHasRate w = cmdHasRate w' := by
  refine ⟨getLsbD_eq_of_and_eq h ?_, getLsbD_eq_of_and_eq h ?_, getLsbD_eq_of_and_eq h ?_⟩
  all_goals
    rw [examinedBits, if_neg h0, if_neg h1]
    simp

/-- An operand that is present is examined; the second selector byte in READ_DIFF alone. -/
theorem operands_eq_of_examined :
    (cmdHasSel w = true → cmdA w = cmdA w') ∧ (cmdHasSel w = true → cmdOp w ≠ 2 → cmdB w = cmdB w') ∧
    (cmdHasGain w = true → cmdGain w = cmdGain w') ∧ (cmdHasRate w = true → cmdRate w = cmdRate w') := by
  refine ⟨fun hpresent => ?_, fun hpresent h2 => ?_, fun hpresent => ?_, fun hpresent => ?_⟩
  all_goals
    refine extractLsb'_eq_of_and_eq h ?_
    simp only [examinedBits, *, if_true, if_false]
    repeat' split
    all_goals decide

end Read

theorem decodeCommand_eq_of_examined : decodeCommand w = decodeCommand w' := by
  unfold decodeCommand
  rw [← cmdOp_eq_of_examined h]
  split
  case isTrue => rfl
  case isFalse h0 =>
  split
  case isTrue ho =>
    obtain ⟨ha, haddr⟩ := construct_operands_eq_of_examined h ho
    rw [ha, haddr]
  case isFalse h1 =>
  obtain ⟨hsel, hgain, hrate⟩ := presenceBits_eq_of_examined h h0 h1
  obtain ⟨ha, hb, hg, hr⟩ := operands_eq_of_examined h h0 h1
  rw [presentIf_congr hgain hg, presentIf_congr hrate hr]
  split
  case isTrue => rw [presentIf_congr hsel ha]
  case isFalse h2 => rw [presentIf_congr hsel fun hs => congrArg₂ Prod.mk (ha hs) (hb hs h2)]

end Examined

/-- Settles O3: decoding is total on command words, and reads nothing but the fields its format examines. -/
theorem unexaminedCommandBitsAreIgnored : Obligations.UnexaminedCommandBitsAreIgnored :=
  ⟨fun _ w => ⟨_, rfl, commandInstr_wf (decodeCommand w)⟩, fun _ _ h => decodeCommand_eq_of_examined h⟩

end Sys2Proof
end

section
/-! PROOFS. Valid tables (40_encoding_tables.md R100): a built word holds exactly its fields
(41_config_builder.md R111), so that different settings build different words, and in the adopted record a built word
is a configuration word (30_encoding.md R79). -/

namespace Sys2Proof.Machine

/-! ### A table's entries -/

theorem mem_of_lookup_eq_some {α : Type} [BEq α] [LawfulBEq α] {t : List (α × Word16)} {k : α} {f : Word16}
    (h : t.lookup k = some f) : (k, f) ∈ t := by
  obtain ⟨l₁, l₂, rfl, _⟩ := List.lookup_eq_some_iff.1 h
  exact List.mem_append_right l₁ List.mem_cons_self

/-- In an injective table a field has one key (40_encoding_tables.md R100 (b)). -/
theorem lookup_injective {α : Type} [BEq α] [LawfulBEq α] [DecidableEq α] {t : List (α × Word16)} (ht : injectiveTable t = true)
    {k k' : α} {f : Word16} (h : t.lookup k = some f) (h' : t.lookup k' = some f) : k = k' := by
  obtain ⟨_, hfields⟩ := Bool.and_eq_true_iff.1 ht
  exact congrArg Prod.fst (List.inj_on_of_nodup_map (of_decide_eq_true hfields) (mem_of_lookup_eq_some h)
    (mem_of_lookup_eq_some h') rfl)

/-- A table's fields lie within its mask (R100 (d)). -/
theorem and_mask_of_lookup {α : Type} [BEq α] [LawfulBEq α] {t : List (α × Word16)} {m : Word16}
    (ht : withinMask t m = true) {k : α} {f : Word16} (h : t.lookup k = some f) : f &&& m = f :=
  beq_iff_eq.1 (List.all_eq_true.1 ht _ (mem_of_lookup_eq_some h))

/-! ### The clauses of R100 -/

/-- The clauses (b) to (d) of 40_encoding_tables.md R100 on the encoder's tables and masks. -/
structure EncoderTables (cfg : Config) : Prop where
  gain_injective : injectiveTable cfg.gainField = true
  se_injective : injectiveTable cfg.seField = true
  diff_injective : injectiveTable cfg.diffField = true
  rate_injective : ∀ v, injectiveTable (rateField cfg v) = true
  se_ne_diff : ∀ p ∈ cfg.seField, ∀ q ∈ cfg.diffField, p.2 ≠ q.2
  gain_within : withinMask cfg.gainField cfg.maskGain = true
  se_within : withinMask cfg.seField cfg.maskCh = true
  diff_within : withinMask cfg.diffField cfg.maskCh = true
  rate_within : ∀ v, withinMask (rateField cfg v) cfg.maskRate = true
  default_within : cfg.defaultWord &&& cfg.maskDefault = cfg.defaultWord
  start_within : cfg.startFlag &&& cfg.maskStart = cfg.startFlag
  masks_disjoint :
    [cfg.maskStart, cfg.maskCh, cfg.maskGain, cfg.maskRate, cfg.maskDefault].Pairwise fun m n => m &&& n = 0

theorem encoderTables_of_tablesValid {cfg : Config} (h : tablesValid cfg = true) : EncoderTables cfg := by
  simp only [tablesValid, Bool.and_eq_true, decide_eq_true_eq, beq_iff_eq, bne_iff_ne, List.all_eq_true, and_assoc] at h
  obtain ⟨_, _, _, hgain, hse, hdiff, hhires, hstd, hne, mgain, mse, mdiff, mhires, mstd, mdefault, mstart, hmasks, _⟩ := h
  exact ⟨hgain, hse, hdiff, fun v => by cases v <;> assumption, hne, mgain, mse, mdiff,
    fun v => by cases v <;> assumption, mdefault, mstart, hmasks⟩

/-! ### The channel field -/

theorem resolve_se_eq_word_iff {cfg : Config} {c : Byte} {f : Word16} :
    resolve cfg (.se c) = .word f ↔ cfg.seField.lookup c = some f := by
  rw [resolve, resolveSe]
  cases cfg.seField.lookup c <;> simp

theorem resolve_diff_eq_word_iff {cfg : Config} {p n : Byte} {f : Word16} :
    resolve cfg (.diff p n) = .word f ↔ cfg.diffField.lookup (p, n) = some f := by
  rw [resolve, resolveDiff]
  cases cfg.diffField.lookup (p, n) <;> simp

theorem EncoderTables.and_maskCh_of_resolve {cfg : Config} (ht : EncoderTables cfg) {sel : Selector} {f : Word16}
    (h : resolve cfg sel = .word f) : f &&& cfg.maskCh = f := by
  cases sel with
  | se c => exact and_mask_of_lookup ht.se_within (resolve_se_eq_word_iff.1 h)
  | diff p n => exact and_mask_of_lookup ht.diff_within (resolve_diff_eq_word_iff.1 h)

theorem EncoderTables.resolve_se_ne_diff {cfg : Config} (ht : EncoderTables cfg) {c p n : Byte} {f : Word16}
    (hse : resolve cfg (.se c) = .word f) : resolve cfg (.diff p n) ≠ .word f := by
  intro hdiff
  rw [resolve_se_eq_word_iff] at hse
  rw [resolve_diff_eq_word_iff] at hdiff
  exact ht.se_ne_diff _ (mem_of_lookup_eq_some hse) _ (mem_of_lookup_eq_some hdiff) rfl

/-- A channel field tells the mode and the channel or pair (R100 (b), (c)). -/
theorem EncoderTables.resolve_injective {cfg : Config} (ht : EncoderTables cfg) {sel sel' : Selector} {f : Word16}
    (h : resolve cfg sel = .word f) (h' : resolve cfg sel' = .word f) : sel = sel' := by
  match sel, sel' with
  | .se c, .se c' =>
    rw [lookup_injective ht.se_injective (resolve_se_eq_word_iff.1 h) (resolve_se_eq_word_iff.1 h')]
  | .diff p n, .diff p' n' =>
    cases lookup_injective ht.diff_injective (resolve_diff_eq_word_iff.1 h) (resolve_diff_eq_word_iff.1 h')
    rfl
  | .se _, .diff _ _ => exact absurd h' (ht.resolve_se_ne_diff h)
  | .diff _ _, .se _ => exact absurd h (ht.resolve_se_ne_diff h')

/-! ### Fields in disjoint masks -/

/-- The word of fields that each have a mask of their own. -/
def orFields (parts : List (Word16 × Word16)) : Word16 := parts.foldr (fun p w => p.1 ||| w) 0

@[simp] theorem orFields_nil : orFields [] = 0 := rfl

@[simp] theorem orFields_cons (p : Word16 × Word16) (parts : List (Word16 × Word16)) :
    orFields (p :: parts) = p.1 ||| orFields parts := rfl

theorem and_eq_zero_of_within {f m n : Word16} (hf : f &&& m = f) (hmn : m &&& n = 0) : f &&& n = 0 := by
  rw [← hf, BitVec.and_assoc, hmn]
  exact BitVec.and_zero

theorem orFields_and_eq_zero {n : Word16} {parts : List (Word16 × Word16)} (hin : ∀ p ∈ parts, p.1 &&& p.2 = p.1)
    (hn : ∀ p ∈ parts, p.2 &&& n = 0) : orFields parts &&& n = 0 := by
  induction parts with
  | nil => exact BitVec.zero_and
  | cons p parts ih =>
    rw [List.forall_mem_cons] at hin hn
    simp [BitVec.and_or_distrib_right, and_eq_zero_of_within hin.1 hn.1, ih hin.2 hn.2]

/-- Each mask holds exactly its own field. -/
theorem orFields_and_mask {parts : List (Word16 × Word16)} (hin : ∀ p ∈ parts, p.1 &&& p.2 = p.1)
    (hdisj : parts.Pairwise fun p q => p.2 &&& q.2 = 0) : ∀ p ∈ parts, orFields parts &&& p.2 = p.1 := by
  induction parts with
  | nil => exact List.forall_mem_nil _
  | cons q parts ih =>
    obtain ⟨hq, hin⟩ := List.forall_mem_cons.1 hin
    obtain ⟨hqdisj, hdisj⟩ := List.pairwise_cons.1 hdisj
    refine List.forall_mem_cons.2 ⟨?_, fun p hp => ?_⟩
    · have hrest : orFields parts &&& q.2 = 0 :=
        orFields_and_eq_zero hin fun p hp => (BitVec.and_comm ..).trans (hqdisj p hp)
      simp [BitVec.and_or_distrib_right, hq, hrest]
    · simp [BitVec.and_or_distrib_right, and_eq_zero_of_within hq (hqdisj p hp), ih hin hdisj p hp]

/-! ### The built word -/

/-- The constituents of a built word, each with its mask (41_config_builder.md R111). -/
def wordParts (cfg : Config) (fr fg fc : Word16) : List (Word16 × Word16) :=
  [(cfg.startFlag, cfg.maskStart), (fc, cfg.maskCh), (fg, cfg.maskGain), (fr, cfg.maskRate),
    (cfg.defaultWord, cfg.maskDefault)]

theorem build_eq_orFields {cfg : Config} {v : Variant} {sel : Selector} {g r w : Word16}
    (h : build cfg v sel g r = .word w) :
    ∃ fr fg fc, (rateField cfg v).lookup r = some fr ∧ cfg.gainField.lookup g = some fg ∧ resolve cfg sel = .word fc ∧
      w = orFields (wordParts cfg fr fg fc) := by
  obtain ⟨fr, fg, fc, hr, hg, hc, rfl⟩ := (build_word_iff ..).1 h
  refine ⟨fr, fg, fc, hr, hg, hc, ?_⟩
  simp only [wordParts, orFields_cons, orFields_nil, BitVec.ofNat_eq_ofNat, BitVec.or_zero]
  ac_rfl

theorem EncoderTables.wordParts_within {cfg : Config} (ht : EncoderTables cfg) {v : Variant} {sel : Selector}
    {g r fr fg fc : Word16} (hr : (rateField cfg v).lookup r = some fr) (hg : cfg.gainField.lookup g = some fg)
    (hc : resolve cfg sel = .word fc) : ∀ p ∈ wordParts cfg fr fg fc, p.1 &&& p.2 = p.1 := by
  simp [wordParts, ht.start_within, ht.default_within, ht.and_maskCh_of_resolve hc,
    and_mask_of_lookup ht.gain_within hg, and_mask_of_lookup (ht.rate_within v) hr]

theorem EncoderTables.wordParts_disjoint {cfg : Config} (ht : EncoderTables cfg) (fr fg fc : Word16) :
    (wordParts cfg fr fg fc).Pairwise fun p q => p.2 &&& q.2 = 0 :=
  (List.pairwise_map (R := fun m n => m &&& n = 0) (f := Prod.snd)).1 ht.masks_disjoint

/-- Settles O6: the five constituents lie in pairwise disjoint masks. -/
theorem builtWordHoldsExactlyItsFields : Obligations.BuiltWordHoldsExactlyItsFields := by
  intro cfg v sel g r w hvalid hw
  have ht := encoderTables_of_tablesValid hvalid
  obtain ⟨fr, fg, fc, hr, hg, hc, rfl⟩ := build_eq_orFields hw
  have hfields := orFields_and_mask (ht.wordParts_within hr hg hc) (ht.wordParts_disjoint fr fg fc)
  generalize orFields (wordParts cfg fr fg fc) = w at hfields
  simp only [wordParts, List.forall_mem_cons] at hfields
  obtain ⟨hstart, hch, hgain, hrate, hdefault, _⟩ := hfields
  exact ⟨hdefault, hstart, hch ▸ hc, hgain ▸ hg, hrate ▸ hr⟩

/-- Settles O7: by O6 equal words have equal fields, and a field tells its operand. -/
theorem buildIsInjective : Obligations.BuildIsInjective := by
  intro cfg v sel sel' g g' r r' w hvalid hw hw'
  have ht := encoderTables_of_tablesValid hvalid
  obtain ⟨_, _, hsel, hg, hr⟩ := builtWordHoldsExactlyItsFields cfg v sel g r w hvalid hw
  obtain ⟨_, _, hsel', hg', hr'⟩ := builtWordHoldsExactlyItsFields cfg v sel' g' r' w hvalid hw'
  exact ⟨ht.resolve_injective hsel hsel', lookup_injective ht.gain_injective hg hg',
    lookup_injective (ht.rate_injective v) hr hr'⟩

/-! ### The adopted record -/

/-- Settles O5: each clause of R100 is decided on the listed tables. -/
theorem adoptedTablesAreValid : Obligations.AdoptedTablesAreValid := adopted_tablesValid

/-- The six gains have the codes 0 to 5 (40_encoding_tables.md R91). -/
theorem gainField_code_le : ∀ p ∈ adopted.gainField, p.2.extractLsb' 9 3 ≤ 5 :=
  List.all_iff_forall_prop.1 (by decide)

/-- A built word is composed of three codes: its fixed bits are those of the default word and the start flag, its gain
code that of a listed gain. -/
theorem exists_codes_of_build {v : Variant} {sel : Selector} {g r w : Word16} (h : build adopted v sel g r = .word w) :
    ∃ c k d, k ≤ 5 ∧ composeCfgWord c k d = w := by
  obtain ⟨hdefault, hstart, _, hgain, _⟩ :=
    builtWordHoldsExactlyItsFields adopted v sel g r w adopted_tablesValid h
  refine ⟨w.extractLsb' 12 3, w.extractLsb' 9 3, w.extractLsb' 5 3, ?_, ?_⟩
  · have hcode := gainField_code_le _ (mem_of_lookup_eq_some hgain)
    have hmask : adopted.maskGain.extractLsb' 9 3 = BitVec.allOnes 3 := rfl
    rwa [BitVec.extractLsb'_and, hmask, BitVec.and_allOnes] at hcode
  · have hfixed : w &&& (0x011F ||| 0x8000) = 0x0103 ||| 0x8000 := by
      rw [BitVec.and_or_distrib_left]
      exact congrArg₂ (· ||| ·) hdefault hstart
    calc composeCfgWord (w.extractLsb' 12 3) (w.extractLsb' 9 3) (w.extractLsb' 5 3)
      _ = w &&& 0x7EE0 ||| w &&& (0x011F ||| 0x8000) := by rw [composeCfgWord_codes, hfixed]; rfl
      _ = w &&& BitVec.allOnes 16 := by rw [← BitVec.and_or_distrib_left]; rfl
      _ = w := BitVec.and_allOnes

/-- Settles O4: a built word is composed of its codes, and a composed word has the fixed bits and decodes. -/
theorem builtWordsAreConfigurationWords : Obligations.BuiltWordsAreConfigurationWords := by
  intro v sel g r w h
  obtain ⟨c, k, d, hk, rfl⟩ := exists_codes_of_build h
  have hfixed : composeCfgWord c k d &&& 0x811F = 0x8103 &&& 0x811F := composeCfgWord_fixedBits c k d
  exact ⟨getLsbD_eq_of_and_eq hfixed rfl, getLsbD_eq_of_and_eq hfixed rfl, extractLsb'_eq_of_and_eq hfixed rfl,
    extractLsb'_eq_of_and_eq hfixed rfl, c, k, d, hk, decodeCfg16_composeCfgWord c k d hk, rfl⟩

/-- The composed word is its fixed bits with the three codes in their fields (30_encoding.md R71). -/
theorem composeCfgWord_eq_or (c k d : BitVec 3) :
    composeCfgWord c k d = 0x8103 ||| channelCode c.toNat ||| gainCode k.toNat ||| rateCode d.toNat := by
  rw [show (0x8103 : Word16) = placeAt 0b1#1 15 ||| placeAt 0b1#1 8 ||| placeAt 0b00011#5 0 by decide, channelCode,
    gainCode, rateCode, BitVec.ofNat_toNat, BitVec.ofNat_toNat, BitVec.ofNat_toNat, composeCfgWord]
  simp only [placeAt]
  ac_rfl

/-- Settles O13: the row answers the composed word. -/
theorem configurationWordComposesItsCodes : Obligations.ConfigurationWordComposesItsCodes := by
  intro c k d s
  rw [← composeCfgWord_eq_or]
  rfl

/-- Settles O1: eleven closed evaluations of the decoder. -/
theorem knownWordsDecode : Obligations.KnownWordsDecode := by
  unfold Obligations.KnownWordsDecode
  decide

end Sys2Proof.Machine
end


section
/-! PROOFS. The adopted record is the listed one (40_encoding_tables.md R91 to R99): each of its tables lists its keys
in the order of their codes, so that a key's field is the code of its place. -/

namespace Sys2Proof.Machine

/-! ### A table that lists its keys in the order of their codes -/

/-- The table of the keys in order, each with the field of its index. -/
def codedTable {α : Type} (keys : List α) (code : Nat → Word16) : List (α × Word16) :=
  keys.mapIdx fun k a => (a, code k)

@[simp] theorem codedTable_keys {α : Type} (keys : List α) (code : Nat → Word16) :
    (codedTable keys code).map Prod.fst = keys := by
  refine List.ext_getElem? fun k => ?_
  simp [codedTable, Function.comp_def]

theorem mem_codedTable {α : Type} {keys : List α} (code : Nat → Word16) {k : Nat} {a : α} (h : keys[k]? = some a) :
    (a, code k) ∈ codedTable keys code :=
  List.mem_of_getElem? (i := k) (by simp [codedTable, h])

/-- Where the keys are distinct, every entry is found. -/
theorem lookup_eq_some_of_mem {α : Type} [BEq α] [LawfulBEq α] {t : List (α × Word16)} (ht : (t.map Prod.fst).Nodup)
    {a : α} {f : Word16} (h : (a, f) ∈ t) : t.lookup a = some f := by
  obtain ⟨f', hf'⟩ := Option.isSome_iff_exists.1 ((lookup_isSome_iff t a).2 (List.mem_map_of_mem h))
  cases List.inj_on_of_nodup_map ht h (mem_of_lookup_eq_some hf') rfl
  exact hf'

theorem lookup_codedTable {α : Type} [BEq α] [LawfulBEq α] {keys : List α} (hkeys : keys.Nodup) (code : Nat → Word16)
    {k : Nat} {a : α} (h : keys[k]? = some a) : (codedTable keys code).lookup a = some (code k) :=
  lookup_eq_some_of_mem (by rwa [codedTable_keys]) (mem_codedTable code h)

theorem lookup_codedTable_eq_none {α : Type} [BEq α] [LawfulBEq α] {keys : List α} (code : Nat → Word16) {a : α}
    (h : a ∉ keys) : (codedTable keys code).lookup a = none := by
  rw [← Option.not_isSome_iff_eq_none, lookup_isSome_iff, codedTable_keys]
  exact h

/-! ### The tables of the adopted record -/

/-- The single-ended channels in the order of their codes (40_encoding_tables.md R95). -/
def channels : List Byte := [0, 1, 2, 3]

theorem channels_getElem? {c : Byte} (h : c.toNat < 4) : channels[c.toNat]? = some c := by
  obtain ⟨n, rfl⟩ : ∃ n : Fin 4, c = BitVec.ofNat 8 n := ⟨⟨c.toNat, h⟩, by simp⟩
  revert n
  decide

theorem toNat_lt_of_mem_channels : ∀ c ∈ channels, c.toNat < 4 := by decide

theorem rateField_adopted (v : Variant) : rateField adopted v = codedTable (ratesOf v) rateCode := by
  cases v <;> rfl

theorem gainField_adopted : adopted.gainField = codedTable gains gainCode := rfl

theorem seField_adopted : adopted.seField = codedTable channels fun k => channelCode (4 + k) := rfl

theorem diffField_adopted : adopted.diffField = codedTable pairs channelCode := rfl

theorem ratesIn_adopted (v : Variant) : ratesIn adopted v = ratesOf v := by
  rw [ratesIn, rateField_adopted, codedTable_keys]

theorem ratesOf_nodup (v : Variant) : (ratesOf v).Nodup := by
  cases v <;> decide

theorem rateField_adopted_lookup {v : Variant} {k : Nat} {r : Word16} (h : (ratesOf v)[k]? = some r) :
    (rateField adopted v).lookup r = some (rateCode k) := by
  rw [rateField_adopted, lookup_codedTable (ratesOf_nodup v) _ h]

theorem gainField_adopted_lookup {k : Nat} {g : Word16} (h : gains[k]? = some g) :
    adopted.gainField.lookup g = some (gainCode k) := by
  rw [gainField_adopted, lookup_codedTable (by decide) _ h]

theorem seField_adopted_lookup (c : Byte) :
    adopted.seField.lookup c = if c.toNat < 4 then some (channelCode (4 + c.toNat)) else none := by
  rw [seField_adopted]
  split
  case isTrue h => exact lookup_codedTable (by decide) _ (channels_getElem? h)
  case isFalse h => exact lookup_codedTable_eq_none _ (mt (toNat_lt_of_mem_channels c) h)

theorem diffField_adopted_lookup {k : Nat} {q : Byte × Byte} (h : pairs[k]? = some q) :
    adopted.diffField.lookup q = some (channelCode k) := by
  rw [diffField_adopted, lookup_codedTable (by decide) _ h]

/-- Settles O60: each table is its keys in the order of their codes; the words, pointers and parameters are the
record's own fields. -/
theorem adoptedInstanceIsTheListedOne : Obligations.AdoptedInstanceIsTheListedOne :=
  ⟨ratesIn_adopted, fun _ _ _ => rateField_adopted_lookup, rfl, fun _ _ => gainField_adopted_lookup,
    seField_adopted_lookup, rfl, fun _ _ => diffField_adopted_lookup,
    rfl, rfl, rfl, rfl, rfl, rfl, rfl, rfl, rfl, rfl, rfl, rfl, rfl⟩

end Sys2Proof.Machine
end

section
/-! PROOFS. The config register encoder's functions (41_config_builder.md R105 to R110): each table's answer on a listed
key and on any other, `BUILD` as the word of its five constituents or its first error, the rows that run them, and that
every function row is pure (R114, 43_sample_converter.md R152). -/

namespace Sys2Proof.Machine

variable {s t : State} {cfg : Config} {v : Variant} {sel : Selector} {w g r fr fg fc : Word16} {c p n : Byte}

/-! ### The four tables -/

theorem lookupRate_of_lookup (hr : (rateField cfg v).lookup r = some fr) : lookupRate cfg v w r = .word (w ||| fr) := by
  rw [lookupRate, hr]

theorem lookupRate_of_not_mem (hr : r ∉ ratesIn cfg v) : lookupRate cfg v w r = .raised .invalidSampleRate r := by
  rw [lookupRate, (lookup_eq_none_iff _ r).2 hr]

theorem lookupGain_of_lookup (hg : cfg.gainField.lookup g = some fg) : lookupGain cfg w g = .word (w ||| fg) := by
  rw [lookupGain, hg]

theorem lookupGain_of_not_mem (hg : g ∉ cfg.gainField.map Prod.fst) :
    lookupGain cfg w g = .raised .invalidGain g := by
  rw [lookupGain, (lookup_eq_none_iff _ g).2 hg]

theorem resolve_se_of_not_mem (hc : c ∉ cfg.seField.map Prod.fst) :
    resolve cfg (.se c) = .raised .invalidChannel (c.setWidth 16) := by
  rw [resolve, resolveSe, (lookup_eq_none_iff _ c).2 hc]

theorem resolve_diff_of_not_mem (hpn : (p, n) ∉ cfg.diffField.map Prod.fst) :
    resolve cfg (.diff p n) = .raised .invalidChannelPair (joinBytes p n) := by
  rw [resolve, resolveDiff, (lookup_eq_none_iff _ (p, n)).2 hpn]

theorem exists_rateField_of_mem (hr : r ∈ ratesIn cfg v) : ∃ fr, (rateField cfg v).lookup r = some fr :=
  Option.isSome_iff_exists.1 ((lookup_isSome_iff _ r).2 hr)

theorem exists_gainField_of_mem (hg : g ∈ cfg.gainField.map Prod.fst) : ∃ fg, cfg.gainField.lookup g = some fg :=
  Option.isSome_iff_exists.1 ((lookup_isSome_iff _ g).2 hg)

/-! ### `BUILD` -/

theorem build_of_lookup (hr : (rateField cfg v).lookup r = some fr) (hg : cfg.gainField.lookup g = some fg)
    (hc : resolve cfg sel = .word fc) :
    build cfg v sel g r = .word (cfg.defaultWord ||| fc ||| fg ||| fr ||| cfg.startFlag) :=
  (build_word_iff ..).2 ⟨fr, fg, fc, hr, hg, hc, by ac_rfl⟩

/-- The rate is looked at first (41_config_builder.md R109). -/
theorem build_of_rate_not_mem (hr : r ∉ ratesIn cfg v) : build cfg v sel g r = .raised .invalidSampleRate r := by
  rw [build, lookupRate_of_not_mem hr]

theorem build_of_gain_not_mem (hr : r ∈ ratesIn cfg v) (hg : g ∉ cfg.gainField.map Prod.fst) :
    build cfg v sel g r = .raised .invalidGain g := by
  obtain ⟨fr, hr⟩ := exists_rateField_of_mem hr
  simp only [build, lookupRate_of_lookup hr, lookupGain_of_not_mem hg]

theorem build_of_resolve_raised {e : ErrorKind} {info : Word16} (hr : r ∈ ratesIn cfg v)
    (hg : g ∈ cfg.gainField.map Prod.fst) (hc : resolve cfg sel = .raised e info) :
    build cfg v sel g r = .raised e info := by
  obtain ⟨fr, hr⟩ := exists_rateField_of_mem hr
  obtain ⟨fg, hg⟩ := exists_gainField_of_mem hg
  simp only [build, lookupRate_of_lookup hr, lookupGain_of_lookup hg, hc]

/-! ### The rows of the encoder -/

variable {b : Built}

theorem exec_lookupRate_eq (hv : s.variant = some v) (hb : lookupRate s.config v w r = b) :
    exec (.lookupRate w r) s = .next (answer (.built b) s) := by
  rw [exec, execLookupRate, hv, need_some, hb]

theorem exec_lookupGain_eq (hb : lookupGain s.config w g = b) :
    exec (.lookupGain w g) s = .next (answer (.built b) s) := by
  rw [exec, execLookupGain, hb]

theorem exec_resolveSe_eq (hb : resolve s.config (.se c) = b) :
    exec (.resolveSe c) s = .next (answer (.built b) s) := by
  rw [exec, execResolveSe, ← hb, resolve]

theorem exec_resolveDiff_eq (hb : resolve s.config (.diff p n) = b) :
    exec (.resolveDiff p n) s = .next (answer (.built b) s) := by
  rw [exec, execResolveDiff, ← hb, resolve]

theorem exec_build_eq (hv : s.variant = some v) (hb : build s.config v sel g r = b) :
    exec (.build sel g r) s = .next (answer (.built b) s) := by
  rw [exec, execBuild, hv, need_some, hb]

/-- Settles O8: the row answers the lookup in the variant's table, and the adopted table lists its rates in the order of
their codes. -/
theorem lookupRateAddsTheRateField : Obligations.LookupRateAddsTheRateField := by
  intro w r v s hv
  have hadds (f : Word16) (hf : (rateField s.config v).lookup r = some f) :
      exec (.lookupRate w r) s = .next (answer (.built (.word (w ||| f))) s) :=
    exec_lookupRate_eq hv (lookupRate_of_lookup hf)
  have hraises (hr : r ∉ ratesIn s.config v) :
      exec (.lookupRate w r) s = .next (answer (.built (.raised .invalidSampleRate r)) s) :=
    exec_lookupRate_eq hv (lookupRate_of_not_mem hr)
  exact ⟨hadds, hraises, fun hcfg => ⟨fun k hk => hadds _ (hcfg ▸ rateField_adopted_lookup hk),
    fun hr => hraises (by rwa [hcfg, ratesIn_adopted])⟩⟩

/-- Settles O9: the row answers the lookup in the gain table, and the adopted table lists its gains in the order of
their codes. -/
theorem lookupGainAddsTheGainField : Obligations.LookupGainAddsTheGainField := by
  intro w g s
  have hadds (f : Word16) (hf : s.config.gainField.lookup g = some f) :
      exec (.lookupGain w g) s = .next (answer (.built (.word (w ||| f))) s) :=
    exec_lookupGain_eq (lookupGain_of_lookup hf)
  have hraises (hg : g ∉ s.config.gainField.map Prod.fst) :
      exec (.lookupGain w g) s = .next (answer (.built (.raised .invalidGain g)) s) :=
    exec_lookupGain_eq (lookupGain_of_not_mem hg)
  exact ⟨hadds, hraises, fun hcfg => ⟨fun k hk => hadds _ (hcfg ▸ gainField_adopted_lookup hk),
    fun hg => hraises (by rwa [hcfg])⟩⟩

/-- Settles O10: the row answers the channel's field or its error, and the adopted table lists channels 0 to 3 in the
order of their codes. -/
theorem resolveSeGivesTheChannelField : Obligations.ResolveSeGivesTheChannelField := by
  intro c s
  have hgives (f : Word16) (hf : s.config.seField.lookup c = some f) :
      exec (.resolveSe c) s = .next (answer (.built (.word f)) s) :=
    exec_resolveSe_eq (resolve_se_eq_word_iff.2 hf)
  have hraises (hc : c ∉ s.config.seField.map Prod.fst) :
      exec (.resolveSe c) s = .next (answer (.built (.raised .invalidChannel (c.setWidth 16))) s) :=
    exec_resolveSe_eq (resolve_se_of_not_mem hc)
  refine ⟨hgives, hraises, fun hcfg => ?_⟩
  have hfield := seField_adopted_lookup c
  rw [← hcfg] at hfield
  refine ⟨fun hlt => hgives _ (hfield.trans (if_pos hlt)), fun hge => ?_⟩
  rw [BitVec.ofNat_toNat]
  exact hraises ((lookup_eq_none_iff _ c).1 (hfield.trans (if_neg hge.not_gt)))

/-- Settles O11: the row answers the ordered pair's field or its error, P being the high byte of the joined bytes. -/
theorem resolveDiffGivesThePairField : Obligations.ResolveDiffGivesThePairField := by
  intro p n s
  rw [← joinBytes_eq_ofNat]
  have hgives (f : Word16) (hf : s.config.diffField.lookup (p, n) = some f) :
      exec (.resolveDiff p n) s = .next (answer (.built (.word f)) s) :=
    exec_resolveDiff_eq (resolve_diff_eq_word_iff.2 hf)
  have hraises (hpn : (p, n) ∉ s.config.diffField.map Prod.fst) :
      exec (.resolveDiff p n) s = .next (answer (.built (.raised .invalidChannelPair (joinBytes p n))) s) :=
    exec_resolveDiff_eq (resolve_diff_of_not_mem hpn)
  exact ⟨hgives, hraises, fun hcfg => ⟨fun k hk => hgives _ (hcfg ▸ diffField_adopted_lookup hk),
    fun hpn => hraises (by rwa [hcfg])⟩⟩

/-- A legal selector has the channel field of its code (40_encoding_tables.md R95, R96). -/
theorem resolve_adopted_of_selectorCode {k : Nat} (h : selectorCode sel = some k) :
    resolve adopted sel = .word (channelCode k) := by
  cases sel with
  | se c =>
    obtain ⟨hlt, rfl⟩ : c.toNat < 4 ∧ 4 + c.toNat = k := by simpa [selectorCode] using h
    exact resolve_se_eq_word_iff.2 ((seField_adopted_lookup c).trans (if_pos hlt))
  | diff p n =>
    obtain ⟨hk, hpn, -⟩ := List.idxOf?_eq_some_iff.1 h
    exact resolve_diff_eq_word_iff.2 (diffField_adopted_lookup (List.getElem?_eq_some_iff.2 ⟨hk, hpn⟩))

/-- On legal operands of the adopted record the default word and the start flag are 0x8103 together. -/
theorem build_adopted {kr kg ks : Nat} (hr : (ratesOf v)[kr]? = some r) (hg : gains[kg]? = some g)
    (hsel : selectorCode sel = some ks) :
    build adopted v sel g r = .word (0x8103 ||| channelCode ks ||| gainCode kg ||| rateCode kr) := by
  rw [build_of_lookup (rateField_adopted_lookup hr) (gainField_adopted_lookup hg) (resolve_adopted_of_selectorCode hsel),
    show (0x8103 : Word16) = adopted.defaultWord ||| adopted.startFlag from rfl]
  congr 1
  ac_rfl

/-- Settles O12: the row answers `BUILD`, on the legal operands and at each failure in its order. -/
theorem buildGivesTheWordOrTheFirstError : Obligations.BuildGivesTheWordOrTheFirstError := by
  intro sel g r v s hv
  refine ⟨fun fr fg fc hr hg hc => exec_build_eq hv (build_of_lookup hr hg hc),
    fun hr => exec_build_eq hv (build_of_rate_not_mem hr),
    fun hr hg => exec_build_eq hv (build_of_gain_not_mem hr hg), fun hr hg c hsel hc => ?_,
    fun hr hg p n hsel hpn => ?_, fun hcfg kr kg ks hr hg hsel => exec_build_eq hv (hcfg ▸ build_adopted hr hg hsel)⟩
  · subst hsel
    exact exec_build_eq hv (build_of_resolve_raised hr hg (resolve_se_of_not_mem hc))
  · subst hsel
    exact exec_build_eq hv (build_of_resolve_raised hr hg (resolve_diff_of_not_mem hpn))

/-! ### Purity -/

theorem execDefaulted_answers {c : ReadCmd} (h : execDefaulted c s = .next t) : ∃ x, t = answer x s := by
  unfold execDefaulted at h
  split at h
  · cases h; exact ⟨_, rfl⟩
  · obtain ⟨v, -, h⟩ := need_next h
    cases h; exact ⟨_, rfl⟩

/-- A function row that answers a next state has answered, and done nothing else. -/
theorem exec_function_answers {i : Instr} (hi : isFunction i = true) (h : exec i s = .next t) :
    ∃ x, t = answer x s := by
  cases i with
  | cfgWord | lookupGain | resolveSe | resolveDiff | waitTicks | raw16 | shift12 | convert => cases h; exact ⟨_, rfl⟩
  | lookupRate | build =>
    obtain ⟨v, -, h⟩ := need_next h
    cases h; exact ⟨_, rfl⟩
  | defaulted => exact execDefaulted_answers h
  | nop | construct | readSe | readDiff | accept | writeCfg | waitTick | waitExit | readConv | respond | w3 | r1plus2
  | reset => cases hi

/-- Settles O46: an answer is written to the observation field alone. -/
theorem functionsArePure : Obligations.FunctionsArePure := by
  intro i s t hi h
  obtain ⟨x, rfl⟩ := exec_function_answers hi h
  rfl

end Sys2Proof.Machine
end

section
/-! PROOFS. The accepting steps of the commands (44_orchestration.md R155 to R159, 41_config_builder.md R109, R112,
R113): that they complete, what an accepted read command latches or answers, and what they leave unchanged. -/

namespace Sys2Proof.Machine

variable {s t : State}

/-! ### Completion -/

theorem performConstruct_phase (sel : Byte) (a : DevAddr) (s : State) :
    (performConstruct sel a s).phase = .respond := by
  obtain ⟨-, h⟩ | ⟨-, h⟩ | ⟨-, -, h⟩ := performConstruct_cases sel a s <;> rw [h] <;> rfl

theorem performConstruct_trace (sel : Byte) (a : DevAddr) (s : State) : (performConstruct sel a s).trace = s.trace := by
  obtain ⟨-, h⟩ | ⟨-, h⟩ | ⟨-, -, h⟩ := performConstruct_cases sel a s <;> rw [h] <;> rfl

theorem performRead_phase (v : Variant) (c : ReadCmd) (s : State) :
    (performRead v c s).phase = .writeCfg ∨ (performRead v c s).phase = .respond := by
  obtain ⟨w, -, h⟩ | ⟨e, info, -, h⟩ := performRead_cases v c s <;> rw [h]
  · exact .inl rfl
  · exact .inr rfl

theorem performRead_trace (v : Variant) (c : ReadCmd) (s : State) : (performRead v c s).trace = s.trace := by
  obtain ⟨w, -, h⟩ | ⟨e, info, -, h⟩ := performRead_cases v c s <;> rw [h] <;> rfl

theorem offerCommand_of_ready {c : Command} (hr : cmdReady c s = true) : offerCommand c s = performCommand c s :=
  if_pos hr

theorem offerCommand_read {c : ReadCmd} {v : Variant} (hp : s.phase = .idle) (hc : s.constructed = true)
    (hv : s.variant = some v) : offerCommand (.read c) s = .next (performRead v c s) := by
  rw [offerCommand_of_ready (cmdReady_read hp hc), performCommand, hv, need_some]

/-- Settles O27, command by command; the variant is read by the read commands alone. -/
theorem acceptCompletes : Obligations.AcceptCompletes := by
  intro w s hr hbound
  rw [exec, execAccept]
  generalize decodeCommand w = c at hr
  obtain ⟨hp, hc⟩ := (cmdReady_iff c s).1 hr
  cases c with
  | nop => exact hc.elim
  | construct sel a =>
    exact ⟨_, offerCommand_of_ready hr, .inr (performConstruct_phase sel a s), performConstruct_trace sel a s⟩
  | read c =>
    obtain ⟨v, hv⟩ := Option.isSome_iff_exists.1 (hbound hc)
    exact ⟨_, offerCommand_read hp hc hv, performRead_phase v c s, performRead_trace v c s⟩

/-! ### An accepted read command -/

section Accepted

variable {c : ReadCmd} {v : Variant} {sel : Selector} {g r : Word16} (hp : s.phase = .idle) (hc : s.constructed = true)
  (hv : s.variant = some v) (hd : defaulted s.config v c = ⟨sel, g, r⟩)
include hp hc hv hd

theorem offerCommand_read_latches {w : Word16} (hb : build s.config v sel g r = .word w) :
    offerCommand (.read c) s = .next (latchRequest g r w s) := by
  rw [offerCommand_read hp hc hv, performRead, hd, buildRequest, hb]

theorem offerCommand_read_raises {e : ErrorKind} {info : Word16} (hb : build s.config v sel g r = .raised e info) :
    offerCommand (.read c) s = .next (raiseError e info s) := by
  rw [offerCommand_read hp hc hv, performRead, hd, buildRequest, hb]

/-- The errors in their order, the channel's or the pair's last (41_config_builder.md R109). -/
theorem offerCommand_read_rejects :
    (r ∉ ratesIn s.config v → offerCommand (.read c) s = .next (raiseError .invalidSampleRate r s)) ∧
    (r ∈ ratesIn s.config v → g ∉ s.config.gainField.map Prod.fst →
      offerCommand (.read c) s = .next (raiseError .invalidGain g s)) ∧
    ∀ {e info}, resolve s.config sel = .raised e info → r ∈ ratesIn s.config v →
      g ∈ s.config.gainField.map Prod.fst → offerCommand (.read c) s = .next (raiseError e info s) :=
  ⟨fun hr => offerCommand_read_raises hp hc hv hd (build_of_rate_not_mem hr),
    fun hr hg => offerCommand_read_raises hp hc hv hd (build_of_gain_not_mem hr hg),
    fun hch hr hg => offerCommand_read_raises hp hc hv hd (build_of_resolve_raised hr hg hch)⟩

end Accepted

/-- What READ_DIFF uses when its pair after defaulting is (p, n). -/
theorem defaulted_diff {cfg : Config} {v : Variant} {pair : Option (Byte × Byte)} {p n : Byte}
    (gain rate : Option Word16) (hpn : (p, n) = pair.getD cfg.defaultPair) :
    defaulted cfg v (.diff pair gain rate) =
      ⟨.diff p n, gain.getD cfg.defaultGain, rate.getD (defaultRate cfg v)⟩ := by
  rw [defaulted, selectorOf, ← hpn]
  rfl

theorem gainField_keys_of_tablesValid {cfg : Config} (h : tablesValid cfg = true) :
    cfg.gainField.map Prod.fst = gains := by
  simp only [tablesValid, Bool.and_eq_true, decide_eq_true_eq, and_assoc] at h
  exact h.1

theorem toNat_lt_of_mem_gains : ∀ g ∈ gains, g.toNat < 2 ^ 13 := List.all_iff_forall_prop.1 (by decide)

/-- The latch loses nothing of a listed gain in a record that meets R100 (10_state.md R29, log entry 20). -/
theorem gain_setWidth_of_lookup {cfg : Config} {g fg : Word16} (hg : cfg.gainField.lookup g = some fg)
    (h : tablesValid cfg = true) : (g.setWidth 13 : Gain).toNat = g.toNat := by
  have hmem : g ∈ cfg.gainField.map Prod.fst := (lookup_isSome_iff _ g).1 (Option.isSome_of_eq_some hg)
  have hlt : g.toNat < 2 ^ 13 := toNat_lt_of_mem_gains g (gainField_keys_of_tablesValid h ▸ hmem)
  rw [BitVec.toNat_setWidth, Nat.mod_eq_of_lt hlt]

/-- Settles O30: legal operands build the word, which the accepting step latches. -/
theorem readSeLatchesALegalRequest : Obligations.ReadSeLatchesALegalRequest := by
  rintro ch gain rate v s g r fr fg fc c hp hc hv rfl rfl rfl hch hg hr
  exact ⟨offerCommand_read_latches hp hc hv rfl (build_of_lookup hr hg (resolve_se_eq_word_iff.2 hch)),
    gain_setWidth_of_lookup hg⟩

/-- Settles O31: the errors in their order, the last the channel's. -/
theorem readSeRejectsInOrder : Obligations.ReadSeRejectsInOrder := by
  rintro ch gain rate v s g r c hp hc hv rfl rfl rfl
  obtain ⟨hrate, hgain, hchannel⟩ := offerCommand_read_rejects (c := .se ch gain rate) hp hc hv rfl
  exact ⟨hrate, hgain, fun hr hg hch => hchannel (resolve_se_of_not_mem hch) hr hg⟩

/-- Settles O32, as O30 with the ordered pair's field. -/
theorem readDiffLatchesALegalRequest : Obligations.ReadDiffLatchesALegalRequest := by
  rintro pair gain rate v s g r fr fg fc p n hp hc hv hpn rfl rfl hpair hg hr
  exact ⟨offerCommand_read_latches hp hc hv (defaulted_diff gain rate hpn)
    (build_of_lookup hr hg (resolve_diff_eq_word_iff.2 hpair)), gain_setWidth_of_lookup hg⟩

/-- Settles O33: the errors in their order, the last the pair's. -/
theorem readDiffRejectsInOrder : Obligations.ReadDiffRejectsInOrder := by
  rintro pair gain rate v s g r p n hp hc hv hpn rfl rfl
  obtain ⟨hrate, hgain, hpair⟩ := offerCommand_read_rejects hp hc hv (defaulted_diff gain rate hpn)
  exact ⟨hrate, hgain, fun hr hg hpn => hpair (resolve_diff_of_not_mem hpn) hr hg⟩

/-! ### Frames -/

theorem offerCommand_construct_frame {sel : Byte} {a : DevAddr} (h : offerCommand (.construct sel a) s = .next t) :
    t = { s with
      phase := t.phase, constructed := t.constructed, variant := t.variant, devAddr := t.devAddr,
      rspStatus := t.rspStatus, rspInfo := t.rspInfo, rspValue := t.rspValue } := by
  obtain rfl | ⟨-, -, sel, a, -, rfl⟩ | ⟨-, -, c, v, hread, -⟩ := offerCommand_cases h
  · rfl
  · obtain ⟨-, ht⟩ | ⟨-, ht⟩ | ⟨-, -, ht⟩ := performConstruct_cases sel a s <;> rw [ht] <;> rfl
  · cases hread

theorem offerCommand_read_frame {c : ReadCmd} (h : offerCommand (.read c) s = .next t) :
    t = { s with
      phase := t.phase, activeGain := t.activeGain, reqRate := t.reqRate, cfgWord := t.cfgWord,
      rspStatus := t.rspStatus, rspInfo := t.rspInfo, rspValue := t.rspValue } := by
  obtain rfl | ⟨-, -, sel, a, hconstruct, -⟩ | ⟨-, -, c, v, -, -, rfl⟩ := offerCommand_cases h
  · rfl
  · cases hconstruct
  · obtain ⟨w, -, ht⟩ | ⟨e, info, -, ht⟩ := performRead_cases v c s <;> rw [ht] <;> rfl

/-- Settles O34: an offer does nothing, constructs, or reads. -/
theorem commandFrames : Obligations.CommandFrames :=
  ⟨fun _ _ _ _ h => offerCommand_construct_frame h, fun _ _ _ _ _ h => offerCommand_read_frame h,
    fun _ _ _ _ _ h => offerCommand_read_frame h⟩

end Sys2Proof.Machine
end

section
/-! PROOFS. The phase steps in their phase (42_bus_sequencer.md R121, R125 to R127): the next state of a failed bus
transaction, of a tick and of the `WAIT` exit, and the frame of each step. -/

namespace Sys2Proof.Machine

variable {s t : State}

/-! ### Failed bus transactions -/

theorem execWriteCfg_fail_of_some {w : Word16} {a : DevAddr} (e : Byte) (hp : s.phase = .writeCfg)
    (hw : s.cfgWord = some w) (ha : s.devAddr = some a) : execWriteCfg (.fail e) s =
      .next (raiseError .busWriteError (e.setWidth 16) (memWrite s.config.ptrConfig a w (.fail e) s)) := by
  rw [execWriteCfg_fail e hp, hw, ha, need_some, need_some]

/-- Settles O36: the step's equation in its phase, the token being the error's information word. -/
theorem writeCfgFailAnswersBusWriteError : Obligations.WriteCfgFailAnswersBusWriteError := by
  intro s w a e hp hw ha
  rw [BitVec.ofNat_toNat]
  exact execWriteCfg_fail_of_some e hp hw ha

theorem execReadConv_fail_of_some {a : DevAddr} (e : Byte) (hp : s.phase = .readConv) (ha : s.devAddr = some a) :
    execReadConv (.fail e) s =
      .next (raiseError .busReadError (e.setWidth 16) (memRead s.config.ptrConversion a (.fail e) s)) := by
  rw [execReadConv_fail e hp, ha, need_some]

/-- Settles O40, as O36 for the read. -/
theorem readConvFailAnswersBusReadError : Obligations.ReadConvFailAnswersBusReadError := by
  intro s a e hp ha
  rw [BitVec.ofNat_toNat]
  exact execReadConv_fail_of_some e hp ha

/-! ### The wait -/

theorem execWaitTick_of_some {n : Nat} (hp : s.phase = .wait) (ht : s.timer = some n) :
    execWaitTick s = .next (observe .tick { s with timer := some (n - 1) }) := by
  rw [execWaitTick_wait hp, ht, need_some]

theorem execWaitTick_of_phase_ne (hp : s.phase ≠ .wait) : execWaitTick s = .next s := if_neg hp

theorem step_tick {rest : List Event} (hin : s.inputs = .tick :: rest) :
    step s = execWaitTick { s with inputs := rest } := step_of_fetch_ok hin rfl

/-- Settles O37: the row in `WAIT`, outside it, and the fetch of a tick, which does not look at the phase. -/
theorem tickCountsDownInWaitOnly : Obligations.TickCountsDownInWaitOnly :=
  ⟨fun _ _ hp ht => execWaitTick_of_some hp ht, fun _ hp => execWaitTick_of_phase_ne hp, fun _ _ hin => step_tick hin⟩

theorem execWaitExit_of_zero (hp : s.phase = .wait) (ht : s.timer = some 0) :
    execWaitExit s = .next { s with phase := .readConv } := by
  rw [execWaitExit_wait hp, ht, need_some, if_pos rfl]

theorem execWaitExit_of_ne_zero {n : Nat} (hp : s.phase = .wait) (ht : s.timer = some n) (hn : n ≠ 0) :
    execWaitExit s = .next s := by
  rw [execWaitExit_wait hp, ht, need_some, if_neg hn]

/-- Settles O38, on either side of timer 0. -/
theorem waitExitNeedsTimerZero : Obligations.WaitExitNeedsTimerZero :=
  fun _ _ hp ht => ⟨fun h0 => execWaitExit_of_zero hp (h0 ▸ ht), execWaitExit_of_ne_zero hp ht⟩

/-! ### Frames -/

theorem StepEffect.busWrite_frame {o : WriteOutcome} (h : StepEffect s (.busWrite o) t) :
    t = { s with
      phase := t.phase, timer := t.timer, trace := t.trace,
      rspStatus := t.rspStatus, rspInfo := t.rspInfo, rspValue := t.rspValue } := by
  cases h <;> rfl

theorem StepEffect.tick_frame (h : StepEffect s .tick t) : t = { s with timer := t.timer, trace := t.trace } := by
  cases h <;> rfl

theorem StepEffect.seq_frame (h : StepEffect s .seq t) : t = { s with phase := t.phase } := by
  cases h <;> rfl

theorem StepEffect.busRead_frame {o : ReadOutcome} (h : StepEffect s (.busRead o) t) :
    t = { s with
      phase := t.phase, rawSample := t.rawSample, trace := t.trace,
      rspStatus := t.rspStatus, rspInfo := t.rspInfo, rspValue := t.rspValue } := by
  cases h <;> rfl

theorem StepEffect.take_frame (h : StepEffect s .take t) :
    t = { s with phase := t.phase, delivered := t.delivered } := by
  cases h <;> rfl

/-- A phase step has an effect of its event in its phase, and none outside it. -/
theorem effect_of_phaseStep {p : Phase} {e : Event} {i : Instr}
    (hin : s.phase = p → exec i s = .next t → StepEffect s e t) (hout : s.phase ≠ p → exec i s = .next s)
    (h : exec i s = .next t) : StepEffect s e t := by
  by_cases hp : s.phase = p
  · exact hin hp h
  · cases (hout hp).symm.trans h
    exact .nothing e

/-- Settles O43: a phase step has one of the effects of its event, and each of them has the frame. -/
theorem phaseStepFrames : Obligations.PhaseStepFrames :=
  ⟨fun o _ _ h => (effect_of_phaseStep execWriteCfg_effect (exec_writeCfg_of_phase_ne o) h).busWrite_frame,
    fun _ _ h => (execWaitTick_effect h).tick_frame,
    fun _ _ h => (effect_of_phaseStep execWaitExit_effect exec_waitExit_of_phase_ne h).seq_frame,
    fun o _ _ h => (effect_of_phaseStep execReadConv_effect (exec_readConv_of_phase_ne o) h).busRead_frame,
    fun _ _ h => (effect_of_phaseStep execRespond_effect exec_respond_of_phase_ne h).take_frame⟩

end Sys2Proof.Machine
end

section
/-! PROOFS. The settle delay in ticks (42_bus_sequencer.md R122, R124, 00_scope.md R8): the ceilings of `WAIT_TICKS` are
those of the rationals, so the ticks cover the delay, and `W_TIMER` is the least width that holds them. -/

namespace Sys2Proof.Machine

/-! ### `WAIT_TICKS` -/

theorem ceilQuotient_eq_ceil (a : Nat) {b : Nat} (hb : 0 < b) : ceilQuotient a b = ⌈(a : ℚ) / b⌉₊ := by
  refine eq_of_forall_ge_iff fun c => ?_
  have hb' : (0 : ℚ) < b := Nat.cast_pos.2 hb
  rw [ceilQuotient, ← Nat.ceilDiv_eq_add_pred_div, ceilDiv_le_iff_le_mul hb, Nat.ceil_le, div_le_iff₀' hb']
  norm_cast

theorem toNat_pos_of_ne_zero {r : Word16} (hr : r ≠ 0) : 0 < r.toNat := Nat.pos_of_ne_zero (BitVec.toNat_ne.1 hr)

theorem waitTicks_eq_ceil (cfg : Config) {r : Word16} (hr : r ≠ 0) :
    waitTicks cfg r = ⌈(cfg.tickHz : ℚ) / r.toNat⌉₊ + ⌈(cfg.tickHz : ℚ) / 10000⌉₊ + 1 := by
  rw [waitTicks, samplePeriod, if_neg hr, epsTicks, ceilQuotient_eq_ceil _ (toNat_pos_of_ne_zero hr),
    ceilQuotient_eq_ceil _ (by decide)]
  norm_num

theorem exec_waitTicks (r : Word16) (s : State) :
    exec (.waitTicks r) s = .next (answer (.ticks (waitTicks s.config r)) s) := rfl

/-- Settles O15: the row answers `WAIT_TICKS`, whose quotients are the rational ceilings. -/
theorem waitTicksIsTheCeilingPlusMargin : Obligations.WaitTicksIsTheCeilingPlusMargin := by
  refine fun r s => ⟨fun hr => ?_, fun _ => ⟨_, exec_waitTicks r s⟩⟩
  rw [exec_waitTicks, waitTicks_eq_ceil s.config hr]
  rfl

/-- Settles O16: each ceiling is at least its quotient, and the 1 is the one tick less. -/
theorem waitTicksCoverTheSettleDelay : Obligations.WaitTicksCoverTheSettleDelay := by
  intro cfg r htick hr
  have htick' : (0 : ℚ) < cfg.tickHz := Nat.cast_pos.2 htick
  have hperiod := Nat.le_ceil ((cfg.tickHz : ℚ) / r.toNat)
  have hmargin := Nat.le_ceil ((cfg.tickHz : ℚ) / 10000)
  rw [le_div_iff₀ htick', waitTicks_eq_ceil cfg hr]
  push_cast
  calc (1 / (r.toNat : ℚ) + 1 / 10000) * cfg.tickHz
      = cfg.tickHz / r.toNat + cfg.tickHz / 10000 := by ring
    _ ≤ ⌈(cfg.tickHz : ℚ) / r.toNat⌉₊ + ⌈(cfg.tickHz : ℚ) / 10000⌉₊ := add_le_add hperiod hmargin
    _ = ⌈(cfg.tickHz : ℚ) / r.toNat⌉₊ + ⌈(cfg.tickHz : ℚ) / 10000⌉₊ + 1 - 1 := (add_sub_cancel_right _ 1).symm

/-! ### The width of the timer -/

theorem longestWait_eq_foldr_map (cfg : Config) :
    longestWait cfg = ((ratesIn cfg .hires ++ ratesIn cfg .std).map (waitTicks cfg)).foldr max 0 := List.foldr_map.symm

theorem longestWait_le {cfg : Config} {m : Nat} (h : ∀ v, ∀ r ∈ ratesIn cfg v, waitTicks cfg r ≤ m) :
    longestWait cfg ≤ m := by
  rw [longestWait_eq_foldr_map]
  refine List.max_le_of_forall_le _ _ fun k hk => ?_
  obtain ⟨r, hr, rfl⟩ := List.mem_map.1 hk
  obtain hr | hr := List.mem_append.1 hr
  · exact h _ r hr
  · exact h _ r hr

theorem one_le_waitTicks (cfg : Config) (r : Word16) : 1 ≤ waitTicks cfg r := Nat.le_add_left 1 _

/-- Clause (f) of 40_encoding_tables.md R100, for the default rates. -/
theorem defaultRate_mem_ratesIn {cfg : Config} (h : tablesValid cfg = true) (v : Variant) :
    defaultRate cfg v ∈ ratesIn cfg v := by
  refine (lookup_isSome_iff _ _).1 ?_
  simp only [tablesValid, Bool.and_eq_true, and_assoc] at h
  cases v <;> tauto

/-- The longest delay takes up the timer's width, so a legal rate's does. -/
theorem exists_waitTicks_ge_of_tablesValid {cfg : Config} (h : tablesValid cfg = true) :
    ∃ v, ∃ r ∈ ratesIn cfg v, 2 ^ (timerWidth cfg - 1) ≤ waitTicks cfg r := by
  have hpos : longestWait cfg ≠ 0 :=
    Nat.pos_iff_ne_zero.1 ((one_le_waitTicks cfg _).trans
      (waitTicks_le_longestWait cfg .hires _ (defaultRate_mem_ratesIn h .hires)))
  have hlog : 2 ^ (timerWidth cfg - 1) ≤ longestWait cfg := Nat.log2_self_le hpos
  by_contra! hall
  have hle : longestWait cfg ≤ 2 ^ (timerWidth cfg - 1) - 1 :=
    longestWait_le fun v r hr => Nat.le_sub_one_of_lt (hall v r hr)
  have hpow := Nat.two_pow_pos (timerWidth cfg - 1)
  omega

theorem waitTicks_adopted_hires :
    (ratesOf .hires).map (waitTicks adopted) = [125101, 62601, 31351, 15726, 7914, 4101, 2207, 1264] := by
  simp [ratesOf, waitTicks_of_ne_zero, adopted]

theorem waitTicks_adopted_std :
    (ratesOf .std).map (waitTicks adopted) = [7914, 4101, 2142, 1188, 726, 518, 405] := by
  simp [ratesOf, waitTicks_of_ne_zero, adopted]

theorem longestWait_adopted : longestWait adopted = 125101 := by
  rw [longestWait_eq_foldr_map, ratesIn_adopted, ratesIn_adopted, List.map_append, waitTicks_adopted_hires,
    waitTicks_adopted_std]
  rfl

theorem timerWidth_adopted : timerWidth adopted = 17 := by
  rw [timerWidth, longestWait_adopted]
  rfl

/-- Settles O17: the longest delay fits the width and takes it up; the adopted delays are R124's table. -/
theorem legalDelaysFitTheTimer : Obligations.LegalDelaysFitTheTimer :=
  ⟨fun cfg v r hr => ⟨one_le_waitTicks cfg r, Nat.mod_eq_of_lt (waitTicks_lt cfg v r hr)⟩,
    fun _ h => exists_waitTicks_ge_of_tablesValid h,
    waitTicks_adopted_hires, waitTicks_adopted_std, timerWidth_adopted⟩

end Sys2Proof.Machine
end

section
/-! PROOFS. A read command run to its end (42_bus_sequencer.md R130, R134, 44_orchestration.md R158 to R163): what a step
does on the event its phase waits for, and the runs made of such steps. -/

namespace Sys2Proof.Machine

variable {s t : State} {rest : List Event}

/-! ### One step on the event its phase waits for -/

theorem step_offer {w : CmdWord} (hin : s.inputs = .offer w :: rest) :
    step s = offerCommand (decodeCommand w) { s with inputs := rest } :=
  (step_of_fetch_ok hin (fetch_offer s w)).trans (exec_commandInstr _ _)

theorem step_busWrite {o : WriteOutcome} (hin : s.inputs = .busWrite o :: rest) (hp : s.phase = .writeCfg) :
    step s = execWriteCfg o { s with inputs := rest } :=
  step_of_fetch_ok hin ((fetch_busWrite s o).trans (if_pos hp))

theorem step_seq (hin : s.inputs = .seq :: rest) (hp : s.phase = .wait) :
    step s = execWaitExit { s with inputs := rest } := step_of_fetch_ok hin ((fetch_seq s).trans (if_pos hp))

theorem step_busRead {o : ReadOutcome} (hin : s.inputs = .busRead o :: rest) (hp : s.phase = .readConv) :
    step s = execReadConv o { s with inputs := rest } :=
  step_of_fetch_ok hin ((fetch_busRead s o).trans (if_pos hp))

theorem step_take {x : Response} (hin : s.inputs = .take :: rest) (hx : visibleResponse s = some x) :
    step s = .next { s with inputs := rest, phase := .idle, delivered := s.delivered ++ [x] } := by
  obtain ⟨hp, -⟩ := visibleResponse_eq_some_iff.1 hx
  rw [step_of_fetch_ok hin ((fetch_take s).trans (if_pos hp))]
  exact respondDeliversTheTriple { s with inputs := rest } x hp hx

theorem run_succ_of_step (h : step s = .next t) (k : Nat) : core.run (k + 1) s = core.run k t := by
  rw [Nat.add_comm]
  exact run_add ((run_one s).trans h)

/-! ### A failed transaction -/

theorem visibleResponse_enterRespond (st : BitVec 4) (i : Word16) (v : BitVec 32) (s : State) :
    visibleResponse (enterRespond st i v s) = some ⟨st, i, v⟩ :=
  visibleResponse_eq_some_iff.2 ⟨rfl, rfl, rfl, rfl⟩

/-- An error entry and the take after it: HOST has the triple, and nothing else has happened. -/
theorem run_raise_take {k : ErrorKind} {info : Word16} {m : State} (h : step s = .next (raiseError k info m))
    (hin : m.inputs = .take :: rest) :
    core.run 2 s = .next { raiseError k info m with
      inputs := rest, phase := .idle, delivered := m.delivered ++ [⟨errorCode k, info, 0⟩] } := by
  rw [run_succ_of_step h, run_one]
  exact step_take hin (visibleResponse_enterRespond _ _ _ m)

/-- Settles O56: either failed transaction raises its error, and the return leaves the block ready. -/
theorem transportErrorEndsOneCommandOnly : Obligations.TransportErrorEndsOneCommandOnly := by
  rintro s w a e rest hc ha hw (⟨hp, hin⟩ | ⟨hp, hin⟩)
  · have hraise := (step_busWrite hin hp).trans
      (execWriteCfg_fail_of_some (s := { s with inputs := .take :: rest }) e hp hw ha)
    refine ⟨_, run_raise_take hraise rfl, rfl, rfl, hc, rfl, rfl, rfl, ?_, fun c => cmdReady_read rfl hc⟩
    rw [if_pos hp]
    rfl
  · have hraise := (step_busRead hin hp).trans
      (execReadConv_fail_of_some (s := { s with inputs := .take :: rest }) e hp ha)
    refine ⟨_, run_raise_take hraise rfl, rfl, rfl, hc, rfl, rfl, rfl, ?_, fun c => cmdReady_read rfl hc⟩
    rw [if_neg (by rw [hp]; decide)]
    rfl

/-! ### A command from the offer to the take -/

/-- An accepted read command and its write answered ok start the wait. -/
theorem run_offer_write {cmd : CmdWord} {c : ReadCmd} {v : Variant} {a : DevAddr} {w : Word16} (hp : s.phase = .idle)
    (hc : s.constructed = true) (hv : s.variant = some v) (ha : s.devAddr = some a)
    (hcmd : decodeCommand cmd = .read c) (hb : buildRequest s.config v (defaulted s.config v c) = .word w)
    (hin : s.inputs = .offer cmd :: .busWrite .ok :: rest) :
    core.run 2 s = .next (startWait (defaulted s.config v c).rate (memWrite s.config.ptrConfig a w .ok
      { latchRequest (defaulted s.config v c).gain (defaulted s.config v c).rate w s with inputs := rest })) := by
  have haccept : step s = .next (latchRequest (defaulted s.config v c).gain (defaulted s.config v c).rate w
      { s with inputs := .busWrite .ok :: rest }) := by
    rw [step_offer hin, hcmd]
    exact offerCommand_read_latches (s := { s with inputs := .busWrite .ok :: rest }) hp hc hv rfl hb
  rw [run_succ_of_step haccept, run_one, step_busWrite rfl rfl]
  exact execWriteCfg_ok_of_some rfl rfl ha rfl

/-- The ticks count the timer down, not below 0, and each is traced. -/
theorem run_ticks (n : Nat) {m : Nat} (hp : s.phase = .wait) (ht : s.timer = some m)
    (hin : s.inputs = List.replicate n .tick ++ rest) :
    core.run n s = .next { s with
      timer := some (m - n), trace := s.trace ++ List.replicate n .tick, inputs := rest } := by
  induction n generalizing s m with
  | zero =>
    have hs : { s with timer := some m, trace := s.trace ++ [], inputs := rest } = s := by
      rw [List.append_nil, ← ht, show rest = s.inputs from hin.symm]
    exact congrArg Host.Outcome.next hs.symm
  | succ n ih =>
    have hstep := (step_tick hin).trans (execWaitTick_of_some (s := { s with inputs := _ }) hp ht)
    have htail := ih (s := observe .tick { s with timer := some (m - 1), inputs := List.replicate n .tick ++ rest })
      hp rfl rfl
    rw [Nat.sub_sub, Nat.add_comm 1 n, observe_trace, List.append_assoc] at htail
    exact (run_succ_of_step hstep n).trans htail

/-- The `WAIT` exit, a read answered ok and the take deliver the converted sample. -/
theorem run_exit_read_take {v : Variant} {g : Gain} {a : DevAddr} {b0 b1 : Byte} (hp : s.phase = .wait)
    (ht : s.timer = some 0) (hv : s.variant = some v) (hg : s.activeGain = some g) (ha : s.devAddr = some a)
    (hin : s.inputs = .seq :: .busRead (.ok b0 b1) :: .take :: rest) :
    core.run 3 s = .next { enterRespond 0 0 (convert v g (joinBytes b0 b1))
        (memRead s.config.ptrConversion a (.ok b0 b1) s) with
      rawSample := some (joinBytes b0 b1), inputs := rest, phase := .idle,
      delivered := s.delivered ++ [⟨0, 0, convert v g (joinBytes b0 b1)⟩] } := by
  have hexit := (step_seq hin hp).trans (execWaitExit_of_zero (s := { s with inputs := _ }) hp ht)
  have hread := (step_busRead (s := { s with phase := .readConv, inputs := _ }) rfl rfl).trans
    (execReadConv_ok_of_some (s := { s with phase := .readConv, inputs := .take :: rest }) b0 b1 rfl hv hg ha)
  rw [run_succ_of_step hexit, run_succ_of_step hread, run_one]
  exact step_take rfl (visibleResponse_enterRespond _ _ _ _)

/-- Settles O59: acceptance and write, the ticks, then exit, read and take. The timer is loaded with at most the delay,
so as many ticks bring it to 0. -/
theorem readCommandRunsEndToEnd : Obligations.ReadCommandRunsEndToEnd := by
  intro s cmd c v a w n b0 b1 rest hp hc hv ha hcmd hb hn hin
  have hin' : s.inputs = .offer cmd :: .busWrite .ok :: (List.replicate n .tick ++
      .seq :: .busRead (.ok b0 b1) :: .take :: rest) := by simpa using hin
  have hload : waitTicks s.config (defaulted s.config v c).rate % 2 ^ timerWidth s.config - n = 0 :=
    Nat.sub_eq_zero_of_le ((Nat.mod_le _ _).trans hn)
  have hstart := run_offer_write hp hc hv ha hcmd hb hin'
  have hticks := run_add ((run_add hstart (b := n)).trans (run_ticks n rfl rfl rfl)) (b := 3)
  rw [show n + 5 = 2 + n + 3 by omega, hticks]
  exact ⟨_, run_exit_read_take rfl (congrArg some hload) hv rfl ha rfl, rfl, rfl, rfl, rfl, rfl, rfl⟩

end Sys2Proof.Machine
end

section
/-! PROOFS. The sample converter (43_sample_converter.md R141 to R148): `RAW16` and `SHIFT12` as arithmetic, and
`CONVERT` as a reading times the gain, its exact integer fitting the 32-bit port. -/

namespace Sys2Proof.Machine

/-! ### The readings of a word -/

/-- Two's complement on the number the two bytes join to (43_sample_converter.md R141). -/
theorem raw16_eq_ite (b0 b1 : Byte) : raw16 b0 b1 =
    if 256 * b0.toNat + b1.toNat < 32768 then (256 * b0.toNat + b1.toNat : Int)
    else (256 * b0.toNat + b1.toNat : Int) - 65536 := by
  rw [raw16, BitVec.toInt_eq_toNat_cond, joinBytes_toNat]
  omega

@[simp] theorem raw16_hi_lo (w : Word16) : raw16 (hiByte w) (loByte w) = w.toInt := by
  rw [raw16, joinBytes_hi_lo]

theorem shift12_eq_ediv (raw : Int) : shift12 raw = raw / 16 := Int.fdiv_eq_ediv_of_nonneg raw (by decide)

/-- The shift rounds down (43_sample_converter.md R142). -/
theorem shift12_bounds (raw : Int) : 16 * shift12 raw ≤ raw ∧ raw < 16 * shift12 raw + 16 := by
  rw [shift12_eq_ediv]
  omega

theorem floor_sixteenth (raw : Int) : ⌊(raw : ℚ) / 16⌋ = shift12 raw := by
  rw [shift12_eq_ediv]
  exact Rat.floor_intCast_div_natCast raw 16

/-- The shift of a word's reading is the word's upper twelve bits, signed (43_sample_converter.md R142). -/
theorem shift12_toInt (u : Word16) : shift12 u.toInt = (u.extractLsb' 4 12).toInt := by
  have hu := u.isLt
  have htop : (u.extractLsb' 4 12).toNat = u.toNat / 16 := by
    rw [BitVec.extractLsb'_toNat, Nat.shiftRight_eq_div_pow]
    omega
  rw [shift12_eq_ediv, BitVec.toInt_eq_toNat_cond, BitVec.toInt_eq_toNat_cond, htop]
  omega

theorem clearLowFour_eq_shift (w : Word16) : w &&& (0xFFF0 : Word16) = (w >>> 4) <<< 4 := by
  ext i hi
  interval_cases i <;> simp

/-- Clearing the low four bits rounds the reading down to a multiple of 16. -/
theorem toInt_clearLowFour (w : Word16) : (w &&& 0xFFF0).toInt = 16 * shift12 w.toInt := by
  have hw := w.isLt
  have hclear : (w &&& 0xFFF0).toNat = 16 * (w.toNat / 16) := by
    rw [clearLowFour_eq_shift, BitVec.toNat_shiftLeft, BitVec.toNat_ushiftRight, Nat.shiftRight_eq_div_pow,
      Nat.shiftLeft_eq]
    omega
  rw [shift12_eq_ediv, BitVec.toInt_eq_toNat_cond, BitVec.toInt_eq_toNat_cond, hclear]
  omega

/-! ### `CONVERT` -/

theorem convertExact_hires (g : Gain) (w : Word16) : convertExact .hires g w = w.toInt * g.toNat := by
  rw [convertExact, raw16_hi_lo]

theorem convertExact_std (g : Gain) (w : Word16) : convertExact .std g w = 16 * shift12 w.toInt * g.toNat := by
  rw [convertExact, raw16_hi_lo]
  ring

theorem convertExact_std_eq_hires (g : Gain) (w : Word16) :
    convertExact .std g w = convertExact .hires g (w &&& 0xFFF0) := by
  rw [convertExact_std, convertExact_hires, toInt_clearLowFour]

/-- `CONVERT` scales a signed reading, on `STD` of the word with its low four bits cleared, by the gain
(43_sample_converter.md R148). -/
theorem convertExact_eq_reading_mul_gain (v : Variant) (g : Gain) (w : Word16) :
    ∃ m : Int, -32768 ≤ m ∧ m ≤ (if v = .hires then 32767 else 32752) ∧ convertExact v g w = m * g.toNat := by
  have hlo := BitVec.le_toInt w
  have hhi := BitVec.toInt_lt (x := w)
  cases v with
  | hires => exact ⟨_, hlo, Int.le_of_lt_add_one hhi, convertExact_hires g w⟩
  | std =>
    obtain ⟨hle, hlt⟩ := shift12_bounds w.toInt
    refine ⟨_, ?_, ?_, convertExact_std g w⟩
    · omega
    · rw [if_neg (by decide)]
      omega

/-- The exact integer lies in the range of its variant and below 2^28 (43_sample_converter.md R148). -/
theorem convertExact_bounds (v : Variant) (g : Gain) (w : Word16) :
    -32768 * (g.toNat : Int) ≤ convertExact v g w ∧
    convertExact v g w ≤ (if v = .hires then 32767 else 32752) * (g.toNat : Int) ∧
    |convertExact v g w| < 2 ^ 28 := by
  obtain ⟨m, hlo, hhi, hm⟩ := convertExact_eq_reading_mul_gain v g w
  have hg : g.toNat < 2 ^ 13 := g.isLt
  have hg0 : (0 : Int) ≤ g.toNat := Int.natCast_nonneg _
  have hlow := mul_le_mul_of_nonneg_right hlo hg0
  have hhigh := mul_le_mul_of_nonneg_right hhi hg0
  rw [hm]
  refine ⟨hlow, hhigh, abs_lt.2 ⟨?_, ?_⟩⟩
  · omega
  · split at hhigh <;> omega

/-- The packing in 32 bits loses nothing (43_sample_converter.md R143, R148). -/
theorem convert_toInt (v : Variant) (g : Gain) (w : Word16) : (convert v g w).toInt = convertExact v g w := by
  obtain ⟨-, -, habs⟩ := convertExact_bounds v g w
  obtain ⟨hlo, hhi⟩ := abs_lt.1 habs
  rw [convert, BitVec.toInt_ofInt, Int.bmod_eq_of_le] <;> omega

/-! ### The statements -/

/-- Settles O18, by two's complement on the two bytes joined. -/
theorem raw16ReadsBigEndianTwosComplement : Obligations.Raw16ReadsBigEndianTwosComplement := by
  intro b0 b1 s
  rw [← raw16_eq_ite]
  rfl

/-- Settles O19: the floor's bounds for every integer, and the upper twelve bits for a word's reading. -/
theorem shift12IsTheFloorOfSixteenths : Obligations.Shift12IsTheFloorOfSixteenths := by
  refine ⟨fun raw s => ⟨shift12 raw, rfl, shift12_bounds raw⟩, fun u s => ⟨?_, ?_, ?_⟩⟩
  · rw [← shift12_toInt]
    rfl
  · exact BitVec.le_toInt _
  · exact Int.le_of_lt_add_one BitVec.toInt_lt

/-- Settles O20: the port holds the exact integer, which is the reading times the gain. -/
theorem convertIsExact : Obligations.ConvertIsExact := by
  refine fun g w s => ⟨⟨convert .hires g w, rfl, ?_⟩, convert .std g w, rfl, ?_⟩
  · rw [convert_toInt, convertExact_hires]
    push_cast
    rfl
  · rw [convert_toInt, convertExact_std, floor_sixteenth]
    push_cast
    ring

/-- Settles O21: the port holds the exact integer, which lies in the range. -/
theorem convertStaysInRange : Obligations.ConvertStaysInRange := by
  intro v g w
  rw [convert_toInt]
  exact convertExact_bounds v g w

/-- Settles O22: both exact integers scale the reading rounded down to a multiple of 16. -/
theorem stdIgnoresTheLowFourBits : Obligations.StdIgnoresTheLowFourBits := by
  intro g w
  rw [convert, convertExact_std_eq_hires, convert]

end Sys2Proof.Machine
end

section
/-! PROOFS. Orchestration (44_orchestration.md R155 to R160): which commands are accepted and that the others change
nothing, the two outcomes of CONSTRUCT, and the default operands. -/

namespace Sys2Proof.Machine

variable {s : State} {c : Command} {w : CmdWord}

/-! ### A command that is not ready -/

theorem offerCommand_of_not_ready (hr : cmdReady c s = false) : offerCommand c s = .next s := if_neg (by simp [hr])

theorem exec_accept_of_not_ready (hr : cmdReady (decodeCommand w) s = false) : exec (.accept w) s = .next s :=
  offerCommand_of_not_ready hr

/-- Readiness does not look at the schedule, so the offer is used up without effect (log entry 2). -/
theorem step_offer_of_not_ready {rest : List Event} (hr : cmdReady (decodeCommand w) s = false)
    (hin : s.inputs = .offer w :: rest) : step s = .next { s with inputs := rest } :=
  (step_offer hin).trans (offerCommand_of_not_ready (s := { s with inputs := rest }) hr)

/-- Settles O26: both are the offer of the decoded command. -/
theorem acceptRunsTheOfferedCommand : Obligations.AcceptRunsTheOfferedCommand := exec_accept

/-- Settles O25: readiness command by command, and the row of a command is its offer. -/
theorem onlyReadyCommandsAreAccepted : Obligations.OnlyReadyCommandsAreAccepted := by
  refine ⟨fun c s => ?_, fun w s hr => ⟨exec_accept_of_not_ready hr, ?_, fun rest => step_offer_of_not_ready hr⟩⟩
  · rw [cmdReady_iff]
    cases c with
    | nop | construct | read => simp
  · rw [exec_commandInstr, offerCommand_of_not_ready hr]

/-! ### NOP -/

theorem cmdReady_nop (s : State) : cmdReady .nop s = false := Bool.and_false _

/-- Opcode 0 is NOP whatever the other bits are (30_encoding.md R66, R78). -/
theorem decodeCommand_of_op_zero (hw : cmdOp w = 0) : decodeCommand w = .nop := if_pos hw

/-- Settles O28: NOP is a command that is never ready. -/
theorem nopIsInert : Obligations.NopIsInert := by
  refine fun s => ⟨offerCommand_of_not_ready (cmdReady_nop s), cmdReady_nop s, fun w hw => ?_⟩
  have hnop := decodeCommand_of_op_zero hw
  have hr : cmdReady (decodeCommand w) s = false := hnop ▸ cmdReady_nop s
  exact ⟨exec_accept_of_not_ready hr, by rw [decode, hnop, commandInstr], fun rest => step_offer_of_not_ready hr⟩

/-! ### CONSTRUCT -/

theorem exec_construct_of_ready {sel : Byte} {a : DevAddr} (hp : s.phase = .idle) (hc : s.constructed = false) :
    exec (.construct sel a) s = .next (performConstruct sel a s) :=
  offerCommand_of_ready (cmdReady_construct hp hc)

theorem eq_zero_or_one_of_toNat_le {sel : Byte} (h : sel.toNat ≤ 1) : sel = 0 ∨ sel = 1 := by
  bv_omega

/-- Settles O29: selectors 0 and 1 each bind a variant, and every other selector raises InvalidVariant. -/
theorem constructBindsOrRejects : Obligations.ConstructBindsOrRejects := by
  intro sel a s hp hc
  rw [exec_construct_of_ready hp hc]
  refine ⟨fun hlegal => ?_, fun hunknown => ?_⟩
  · obtain rfl | rfl := eq_zero_or_one_of_toNat_le hlegal <;> rfl
  · obtain ⟨rfl, -⟩ | ⟨rfl, -⟩ | ⟨-, -, hraise⟩ := performConstruct_cases sel a s
    · exact absurd hunknown (by decide)
    · exact absurd hunknown (by decide)
    · rw [hraise, BitVec.ofNat_toNat]
      rfl

/-! ### Default operands -/

theorem defaultRate_eq_ite (cfg : Config) (v : Variant) :
    defaultRate cfg v = if v = .hires then cfg.defaultRateHires else cfg.defaultRateStd := by
  cases v <;> rfl

/-- The row answers the operands used; it reads the variant where the command gives no rate. -/
theorem exec_defaulted {c : ReadCmd} {v : Variant} (h : (rateGiven c).isSome = true ∨ s.variant = some v) :
    exec (.defaulted c) s = .next (answer (.request (defaulted s.config v c)) s) := by
  rw [exec, execDefaulted]
  cases hr : rateGiven c with
  | some r => rw [defaulted, hr]; rfl
  | none =>
    have hv : s.variant = some v := h.resolve_left (by simp [hr])
    rw [hv]
    rfl

/-- Clause (f) of 40_encoding_tables.md R100, for the default gain, channel and pair. -/
theorem defaults_listed_of_tablesValid {cfg : Config} (h : tablesValid cfg = true) :
    (cfg.gainField.lookup cfg.defaultGain).isSome = true ∧ (cfg.seField.lookup cfg.defaultChannel).isSome = true ∧
      (cfg.diffField.lookup cfg.defaultPair).isSome = true := by
  simp only [tablesValid, Bool.and_eq_true, and_assoc] at h
  tauto

/-- A read command with the default gain and rate and a listed channel or pair passes validation. -/
theorem offerCommand_read_of_defaults {c : ReadCmd} {v : Variant} {sel : Selector} {fc : Word16}
    (hvalid : tablesValid s.config = true) (hp : s.phase = .idle) (hc : s.constructed = true)
    (hv : s.variant = some v)
    (hd : defaulted s.config v c = ⟨sel, s.config.defaultGain, defaultRate s.config v⟩)
    (hch : resolve s.config sel = .word fc) : ∃ t, offerCommand (.read c) s = .next t ∧ t.phase = .writeCfg := by
  obtain ⟨fr, hr⟩ := exists_rateField_of_mem (defaultRate_mem_ratesIn hvalid v)
  obtain ⟨fg, hg⟩ := Option.isSome_iff_exists.1 (defaults_listed_of_tablesValid hvalid).1
  exact ⟨_, offerCommand_read_latches hp hc hv hd (build_of_lookup hr hg hch), rfl⟩

/-- Settles O14: the row answers the operands used, and R100 lists the defaults. -/
theorem defaultsAreSubstitutedAndValid : Obligations.DefaultsAreSubstitutedAndValid := by
  refine ⟨fun ch g r v s h => ?_, fun p g r v s h => ?_, fun v s hvalid hp hc hv => ?_⟩
  · rw [← defaultRate_eq_ite]
    exact exec_defaulted (c := .se ch g r) h
  · rw [← defaultRate_eq_ite]
    exact exec_defaulted (c := .diff p g r) h
  · obtain ⟨-, hse, hdiff⟩ := defaults_listed_of_tablesValid hvalid
    obtain ⟨fse, hse⟩ := Option.isSome_iff_exists.1 hse
    obtain ⟨fdiff, hdiff⟩ := Option.isSome_iff_exists.1 hdiff
    exact ⟨offerCommand_read_of_defaults hvalid hp hc hv rfl (resolve_se_eq_word_iff.2 hse),
      offerCommand_read_of_defaults hvalid hp hc hv rfl (resolve_diff_eq_word_iff.2 hdiff)⟩

end Sys2Proof.Machine
end

section
/-! PROOFS. Error entry (60_exceptions.md R175, R176, R179): the whole next state of `raise`, and the codes of the
seven kinds. -/

namespace Sys2Proof.Machine

theorem raiseError_eq (e : ErrorKind) (info : Word16) (s : State) :
    raiseError e info s =
      { s with phase := .respond, rspStatus := some (errorCode e), rspInfo := some info, rspValue := some 0 } := rfl

/-- Settles O55: error entry is one record update, which names the phase and the response alone, and the codes are read
off kind by kind. -/
theorem errorEntryWritesOnlyTheResponse : Obligations.ErrorEntryWritesOnlyTheResponse :=
  ⟨raiseError_eq, by decide⟩

end Sys2Proof.Machine
end

section
/-! PROOFS. Reset (70_reset_and_hazards.md R200 to R202): the state after reset, and the RESET event in every state. -/

namespace Sys2Proof.Machine

variable {s : State}

/-- Before a construction the idle block accepts no other command (44_orchestration.md R155). -/
theorem cmdReady_iff_construct_of_unconstructed (hp : s.phase = .idle) (hc : s.constructed = false) (c : Command) :
    cmdReady c s = true ↔ ∃ v a, c = .construct v a := by
  rw [cmdReady_iff]
  cases c with
  | construct v a => simp [hp, hc]
  | nop | read => simp [hc]

/-- Settles O23: the elements are read off the state after reset, and the derived signals off its phase. -/
theorem resetLeavesOnlyPhaseAndConstructed : Obligations.ResetLeavesOnlyPhaseAndConstructed := by
  rintro cfg _ rfl
  exact ⟨rfl, rfl, rfl, rfl, rfl, rfl, rfl, rfl, rfl, rfl, rfl, rfl, rfl, rfl, rfl,
    cmdReady_iff_construct_of_unconstructed rfl rfl⟩

/-- RESET is fetched in every phase (70_reset_and_hazards.md R200). -/
theorem step_reset {rest : List Event} (hin : s.inputs = .reset :: rest) :
    step s = .next { State.resetOf s.config with
      trace := s.trace, inputs := rest, delivered := s.delivered, result := s.result } :=
  step_of_fetch_ok hin rfl

/-- Settles O24: the row is one record update, and a step on the event runs the row in every phase. -/
theorem resetEventRestoresTheResetState : Obligations.ResetEventRestoresTheResetState := by
  refine fun s => ⟨rfl, fun rest hin => ⟨_, step_reset hin, ?_⟩⟩
  exact ⟨rfl, rfl, rfl, rfl, rfl, rfl, rfl, rfl, rfl, rfl, rfl, rfl, rfl, rfl, rfl, rfl,
    cmdReady_iff_construct_of_unconstructed rfl rfl⟩

end Sys2Proof.Machine
end
